-- ==== Sys2Proof/Word.lean ====
section
/-! DEFINITION. The word types of the engine (00_scope R9, R10): bytes, halfwords, 32-bit words. -/

namespace Sys2Proof

/-- An 8-bit value: a byte of a frame or of memory. -/
abbrev Byte := BitVec 8

/-- A 16-bit value: `lun`, `count`, `blocksize`, a reply halfword (R9, R34). -/
abbrev Half := BitVec 16

/-- A 32-bit value: a register value, a bus address, a reply token (R9, R40). -/
abbrev Word := BitVec 32

end Sys2Proof
end

