-- ==== Sys2Proof/Config.lean ====
section
/-! DEFINITION. What an engine instance fixes: the parameters of 00_scope R8 with their constraints, and the free values of
the model (the answers of the controller oracle, 10_state R50). -/

namespace Sys2Proof

/-- `REG_SPACE` (R8, R70, D2): which address space holds the register window. No rule depends on it. -/
inductive RegSpace where
  | io
  | mem
deriving DecidableEq, Repr, Inhabited

/-- The three registers the engine reads (30_encoding R141). -/
inductive ReadPort where
  | doorbell
  | istatus
  | repq
deriving DecidableEq, Repr, Inhabited

/-- The implementation parameters of R8, unconstrained. The constants R8 fixes are not here: they are literals of
`Machine.Operands`. -/
structure Params where
  /-- `REG_SPACE` -/
  regSpace : RegSpace
  /-- `REG_WINDOW_BYTES` -/
  regWindowBytes : Nat
  /-- `IOC_INIT_REPLY_HALFWORDS` -/
  replyHalfwords : Nat
  /-- `REPLY_BUF_ADDR` -/
  replyBufAddr : Word
  /-- `REPLY_BUF_BYTES` -/
  replyBufBytes : Half
  /-- `WHO_INIT` -/
  whoInit : Byte
  /-- `INIT_FLAGS` -/
  initFlags : Byte
  /-- `MAX_DEVICES` -/
  maxDevices : Byte
  /-- `MAX_BUSES` -/
  maxBuses : Byte
  /-- `INIT_MSG_FLAGS` -/
  initMsgFlags : Byte
  /-- `INIT_CONTEXT` -/
  initContext : Word
  /-- `INIT_TAIL[0]` -/
  initTail0 : Word
  /-- `INIT_TAIL[1]` -/
  initTail1 : Word
  /-- `INIT_TAIL[2]` -/
  initTail2 : Word
  /-- `SGE_ELEMENT_TYPE` -/
  sgeElementType : BitVec 2
  /-- `CTRL_DATA_IN` -/
  ctrlDataIn : Word
  /-- `CTRL_DATA_OUT` -/
  ctrlDataOut : Word
  /-- `IS_WRITE_CDB` as data: the operation codes it is true of. Every total function 8 → Bool is one such list. -/
  writeOps : List Byte
  /-- `STATUS_CODE(SUCCESS)` -/
  codeSuccess : Byte
  /-- `STATUS_CODE(NOT_READY)` -/
  codeNotReady : Byte
  /-- `STATUS_CODE(BAD_TRACK)` -/
  codeBadTrack : Byte
  /-- `BACKOFF_DELAY`; no rule depends on it (D24). -/
  backoffDelay : Nat
deriving DecidableEq, Repr, Inhabited

/-- The constraints of R8, one conjunct per constrained row. `ReplyFrameSize = REPLY_BUF_BYTES` (R112) holds by
construction: the request image has no second field for it. -/
def Params.valid (p : Params) : Bool :=
  decide (0x48 ≤ p.regWindowBytes)
  && (decide (1 ≤ p.replyHalfwords) && decide (p.replyHalfwords ≤ 255))
  && (decide (p.replyBufAddr % 8 = 0) && decide (p.replyBufAddr ≠ 0))
  && decide (p.replyBufBytes ≠ 0)
  && (decide (p.ctrlDataIn ≠ 0) && decide (p.ctrlDataOut ≠ 0) && decide (p.ctrlDataIn ≠ p.ctrlDataOut))
  && decide ((0x28 : Byte) ∉ p.writeOps)
  && (decide (p.codeSuccess ≠ p.codeNotReady) && decide (p.codeSuccess ≠ p.codeBadTrack)
      && decide (p.codeNotReady ≠ p.codeBadTrack))
  && decide (0 < p.backoffDelay)

/-- An engine instance: parameters that meet R8. An ill-formed instance has no model (60_exceptions R277): it cannot be
built. -/
structure Config extends Params where
  ok : toParams.valid = true
deriving DecidableEq, Repr

/-- The sample instantiation of 95_test_vectors §0: not normative, used by the tests and as the fallback of
`Config.machine`. -/
def Params.sample : Params where
  regSpace := .io
  regWindowBytes := 0x48
  replyHalfwords := 10
  replyBufAddr := 0x00007F00
  replyBufBytes := 32
  whoInit := 0x02
  initFlags := 0x00
  maxDevices := 0x07
  maxBuses := 0x01
  initMsgFlags := 0x00
  initContext := 0
  initTail0 := 0
  initTail1 := 0
  initTail2 := 0
  sgeElementType := 1
  ctrlDataIn := 0x02000000
  ctrlDataOut := 0x01000000
  writeOps := [0x2A]
  codeSuccess := 0x00
  codeNotReady := 0xAA
  codeBadTrack := 0x0C
  backoffDelay := 1

/-- The sample instance (95_test_vectors §0). -/
def Config.sample : Config := { Params.sample with ok := by decide }

/-- The instance with given parameters; an ill-formed one is refused as a whole (R277). -/
def Config.ofParams (p : Params) : Option Config := if h : p.valid = true then some { p with ok := h } else none

/-- DESIGN CHOICE (log 6): the parameters of the machine at hand, which the spec leaves OPEN: no body, so that nothing in
Lean can evaluate them. Safe. -/
opaque Config.chosen : Params

/-- The machine's instance: the chosen parameters. An ill-formed choice has no model (R277); the sample stands in for it
only so that the definition is total (log 6). -/
def Config.machine : Config :=
  if h : Config.chosen.valid = true then { Config.chosen with ok := h } else Config.sample

/-- The controller oracle's free answers (R50, log 3): the `n`-th free answer to a read of a register. No body: any
32-bit value. -/
opaque Config.answer : ReadPort → Nat → Word

end Sys2Proof
end

