-- ==== Sys2Proof/Syntax.lean ====
section
/-! DEFINITION. The engine's instructions: one constructor per row of spec/opcode_table.json (00_scope R2, D1), and the
data they carry. -/

namespace Sys2Proof

/-- The inputs of a host operation (10_state R31, 00_scope R9). `BRINGUP` uses `iobase` alone (40_doorbell R150, D39). -/
structure ExecInputs where
  iobase : Word
  target : Byte
  lun : Half
  cdb : Vector Byte 16
  blocksize : Half
  count : Half
  dataAddr : Word
  frameAddr : Word
  senseAddr : Word
deriving DecidableEq, Repr

/-- All inputs zero. -/
def ExecInputs.zero : ExecInputs where
  iobase := 0
  target := 0
  lun := 0
  cdb := Vector.replicate 16 0
  blocksize := 0
  count := 0
  dataAddr := 0
  frameAddr := 0
  senseAddr := 0

/-- What the host port carries (30_encoding R142): the 1-bit selector and the inputs. -/
structure HostReq where
  op : BitVec 1
  inputs : ExecInputs
deriving DecidableEq, Repr

/-- `Status` (10_state R35, 30_encoding R140). -/
inductive Status where
  | success
  | notReady
  | badTrack
deriving DecidableEq, Repr

/-- The rows of the opcode table. Several rows can name the same action of the engine (a `WR_DOORBELL` that carries the
word `DB_RESET`): see log 1. -/
inductive Instr where
  /-- `BRINGUP(iobase)` (R150) -/
  | bringup (iobase : Word)
  /-- `EXEC(inputs)` (R240) -/
  | exec (inputs : ExecInputs)
  /-- the reset command word (R102, R151) -/
  | dbReset
  /-- the handshake command word (R103, R154) -/
  | dbHandshake
  /-- the IOC-Init request word `W[i]` (R113, R155) -/
  | dbMsgword (i : Nat)
  /-- the SCSI-IO request message, function code 0x00 (R105, R190) -/
  | msgScsiIo
  /-- the IOC-Init request message, function code 0x02 (R105, R110) -/
  | msgIocInit
  /-- register accesses (R141) -/
  | wrDoorbell
  | rdDoorbell
  | wrIstatus
  | rdIstatus
  | wrImask
  | wrReqq
  | wrRepq
  | rdRepq
  /-- the frame `MemWrite` (R190) -/
  | memwrFrame
  /-- the backoff wait (R216) -/
  | delay
  /-- the return of a status on the host port (R244) -/
  | ret (r : Status)
  /-- reply-token classes (R131, R210) -/
  | tokCompletion
  | tokSpuriousZero
  /-- the alias token; its bit 31 may be either (R132) -/
  | tokSpuriousAlias (bit31 : Bool)
  | tokDrained
  /-- a token of no named class, with its value -/
  | tokOther (v : Word)
deriving DecidableEq, Repr

end Sys2Proof
end

