-- ==== Sys2Proof/Machine/Flags.lean ====
section
/-! DEFINITION. The one status flag the engine reads (10_state R47), the direction of a command (41_scsi R183), and the
classes of reply tokens (42_reply R210). -/

namespace Sys2Proof.Machine

/-- `ISTATUS.RPL`, bit 3, "reply available" (10_state R43, R47). -/
def rpl (s : Word) : Bool := s.getLsbD 3

/-- `shl1_32` (00_scope R10). -/
def shl1 (v : Word) : Word := v <<< 1

/-- `IS_WRITE_CDB` (R8, D16). -/
def isWriteCdb (c : Config) (op : Byte) : Bool := decide (op ∈ c.writeOps)

/-- The direction of a command (R183). -/
inductive Direction where
  | none
  | read
  | write
deriving DecidableEq, Repr

/-- `Direction(blocksize, cdb)` (R183): a function of the block size and of `cdb[0]` alone. -/
def direction (c : Config) (blocksize : Half) (op : Byte) : Direction :=
  if blocksize = 0 then .none else if isWriteCdb c op then .write else .read

/-- The contains-data flag (R185, D38): set for a write, else clear. -/
def dataFlag (d : Direction) : Bool := decide (d = .write)

/-- `CONTEXT_MAGIC` (R8): the tag of every frame and the poller's expected tag (R192, R211). -/
def contextMagic : Word := 0xAAAA5555

/-- `DRAIN_SENTINEL` (R8). -/
def drainSentinel : Word := 0xFFFFFFFF

/-- The classes of 30_encoding R131. -/
inductive TokClass where
  | completion
  | spurious
  | drained
  | other
deriving DecidableEq, Repr

/-- `Classify` (R210), its comparisons in the order of the source's algorithm. -/
def classify (c : Config) (v : Word) : TokClass :=
  if v = contextMagic then .completion
  else if v = 0 ∨ shl1 v = c.replyBufAddr then .spurious
  else if v = drainSentinel then .drained
  else .other

end Sys2Proof.Machine
end

