-- ==== Sys2Proof/Machine/Operands.lean ====
section
/-! DEFINITION. Byte order, the wire formats of 30_encoding, and the assembly of every operand from parameters and
latched inputs: doorbell words, the IOC-Init request, the SCSI-IO frame with its scatter-gather entry, status codes. -/

namespace Sys2Proof.Machine

/-! ### Byte sequences (00_scope R11, 20_memory R74) -/

/-- `LE16`. -/
def le16 (v : Half) : List Byte := [v.extractLsb' 0 8, v.extractLsb' 8 8]

/-- `LE32`. -/
def le32 (v : Word) : List Byte :=
  [v.extractLsb' 0 8, v.extractLsb' 8 8, v.extractLsb' 16 8, v.extractLsb' 24 8]

/-- `bytes[i]`; 0 past the end (every caller checks the length first). -/
def byteAt (b : List Byte) (i : Nat) : Byte := b.getD i 0

/-- The little-endian halfword at offset `i`. -/
def half16 (b : List Byte) (i : Nat) : Half :=
  (byteAt b i).setWidth 16 ||| ((byteAt b (i + 1)).setWidth 16 <<< 8)

/-- `word32(b, i)` (R11). -/
def word32 (b : List Byte) (i : Nat) : Word :=
  (byteAt b i).setWidth 32 ||| ((byteAt b (i + 1)).setWidth 32 <<< 8)
    ||| ((byteAt b (i + 2)).setWidth 32 <<< 16) ||| ((byteAt b (i + 3)).setWidth 32 <<< 24)

/-! ### Doorbell command words (R100 to R104) -/

/-- Format `doorbell_cmd` (R100): both inputs truncated to 8 bits (R104). -/
def doorbellCmd (function size : Word) : Word :=
  ((function &&& 0xFF) <<< 24) ||| ((size &&& 0xFF) <<< 16)

/-- `IOC_INIT_REQ_WORDS` (R8). -/
def iocInitReqWords : Nat := 7

/-- `DB_RESET_WORD` (R102, D5): function 0x40, no message words. -/
def dbResetWord : Word := doorbellCmd 0x40 0

/-- `DB_HANDSHAKE_WORD` (R103): function 0x42, seven message words. -/
def dbHandshakeWord : Word := doorbellCmd 0x42 (BitVec.ofNat 32 iocInitReqWords)

/-! ### The IOC-Init request (R110 to R113) -/

/-- `MSG_FUNC_IOC_INIT` (R105). -/
def msgFuncIocInit : Byte := 0x02

/-- `MSG_FUNC_SCSI_IO` (R105). -/
def msgFuncScsiIo : Byte := 0x00

/-- The 28-byte image `Q` (R110, D9); bytes 12 and 13 are `REPLY_BUF_BYTES` (R112). -/
def iocInitImage (c : Config) : List Byte :=
  [c.whoInit, 0x00, 0x00, msgFuncIocInit, c.initFlags, c.maxDevices, c.maxBuses, c.initMsgFlags]
    ++ le32 c.initContext ++ le16 c.replyBufBytes ++ [0x00, 0x00]
    ++ le32 c.initTail0 ++ le32 c.initTail1 ++ le32 c.initTail2

/-- Request word `W[i] = word32(Q, 4*i)` (20_memory R75). -/
def iocInitWord (c : Config) (i : Nat) : Word := word32 (iocInitImage c) (4 * i)

/-! ### The SCSI-IO frame (R120 to R128, 41_scsi R184 to R193) -/

/-- `P = count * blocksize`, exact (R182). -/
def xferLen (a : ExecInputs) : Nat := a.count.toNat * a.blocksize.toNat

/-- The direction of the latched command (R183): `cdb[0]` is the operation code. -/
def inputsDirection (c : Config) (a : ExecInputs) : Direction := direction c a.blocksize a.cdb[0]

/-- The control word (R128, R184). -/
def controlWord (c : Config) : Direction → Word
  | .none => 0
  | .read => c.ctrlDataIn
  | .write => c.ctrlDataOut

/-- `DataLength = zext_32(P)` (R145, R186). -/
def dataLength (a : ExecInputs) : Word := BitVec.ofNat 32 (xferLen a)

/-- `SGE_FLAGS_BASE` (R126): last element, end of buffer, the element type, end of list. -/
def sgeFlagsBase (c : Config) : Word :=
  ((1 : Word) <<< 31) ||| ((1 : Word) <<< 30) ||| (c.sgeElementType.setWidth 32 <<< 28) ||| ((1 : Word) <<< 24)

/-- `FlagsLength` (R126): the base, the contains-data flag at bit 26, the length `P[23:0]` (R187). -/
def sgeFlagsLength (c : Config) (a : ExecInputs) : Word :=
  sgeFlagsBase c ||| ((BitVec.ofBool (dataFlag (inputsDirection c a))).setWidth 32 <<< 26)
    ||| (BitVec.ofNat 24 (xferLen a)).setWidth 32

/-- `LUN[0..7]` (R188): the low byte of the LUN number in byte 1, zero elsewhere. -/
def lunArray (lun : Half) : List Byte := [0, lun.extractLsb' 0 8, 0, 0, 0, 0, 0, 0]

/-- `EncodeFrame` (R190): the 48-byte request (R120), then the 8-byte scatter-gather entry (R125), packed (20_memory
R83). `Bus`, `ChainOffset`, byte 6 and `MessageFlags` are 0 (R193). -/
def encodeFrame (c : Config) (a : ExecInputs) : List Byte :=
  [a.target, 0x00, 0x00, msgFuncScsiIo, 0x10, 0x20, 0x00, 0x00]
    ++ le32 contextMagic ++ lunArray a.lun ++ le32 (controlWord c (inputsDirection c a))
    ++ a.cdb.toList ++ le32 (dataLength a) ++ le32 a.senseAddr
    ++ le32 (sgeFlagsLength c a) ++ le32 a.dataAddr

/-! ### Tokens and status codes -/

/-- The alias token with a given bit 31 (R132): bits 30:0 are `REPLY_BUF_ADDR[31:1]`. -/
def aliasToken (c : Config) (bit31 : Bool) : Word :=
  (c.replyBufAddr >>> 1) ||| (if bit31 then 0x80000000 else 0)

/-- `STATUS_CODE` (R140). -/
def statusCode (c : Config) : Status → Byte
  | .success => c.codeSuccess
  | .notReady => c.codeNotReady
  | .badTrack => c.codeBadTrack

/-! ### The register window (10_state R40) -/

/-- The ten registers of the window. The engine uses five of them (R71); the other five are unused (R42). -/
inductive Reg where
  | doorbell
  | wrseq
  | hostdiag
  | test
  | diagdata
  | diagaddr
  | istatus
  | imask
  | reqq
  | repq
deriving DecidableEq, Repr

/-- The register map. -/
def regOffset : Reg → Word
  | .doorbell => 0x00
  | .wrseq => 0x04
  | .hostdiag => 0x08
  | .test => 0x0C
  | .diagdata => 0x10
  | .diagaddr => 0x14
  | .istatus => 0x30
  | .imask => 0x34
  | .reqq => 0x40
  | .repq => 0x44

def offDoorbell : Word := regOffset .doorbell
def offIstatus : Word := regOffset .istatus
def offImask : Word := regOffset .imask
def offReqq : Word := regOffset .reqq
def offRepq : Word := regOffset .repq

/-- The offset of each register the engine reads. -/
def readOffset : ReadPort → Word
  | .doorbell => offDoorbell
  | .istatus => offIstatus
  | .repq => offRepq

/-- The `IMASK` value (10_state R44, 40_doorbell R152, D6): bits 0 and 3. -/
def imaskValue : Word := 0x00000009

/-! ### The memory regions of a command (20_memory R72) -/

/-- The four regions the engine names. It writes the first and accesses no other (R78). -/
inductive Region where
  | requestFrame
  | senseBuffer
  | dataBuffer
  | replyBuffer
deriving DecidableEq, Repr

/-- Where a region begins. -/
def regionBase (c : Config) (a : ExecInputs) : Region → Word
  | .requestFrame => a.frameAddr
  | .senseBuffer => a.senseAddr
  | .dataBuffer => a.dataAddr
  | .replyBuffer => c.replyBufAddr

/-- How many bytes it has. -/
def regionBytes (c : Config) (a : ExecInputs) : Region → Nat
  | .requestFrame => 56
  | .senseBuffer => 32
  | .dataBuffer => xferLen a
  | .replyBuffer => c.replyBufBytes.toNat

end Sys2Proof.Machine
end

