-- ==== Sys2Proof/WellFormed.lean ====
section
/-! DEFINITION. Which terms of `Instr` stand for something the engine can meet: a request word has an index below 7
(30_encoding R113), and a token of class OTHER matches none of the four named patterns (R131). -/

namespace Sys2Proof

/-- Well-formedness under an instance. -/
def Instr.wf (c : Config) : Instr → Bool
  | .dbMsgword i => decide (i < 7)
  | .tokOther v =>
    decide (v ≠ 0xAAAA5555) && decide (v ≠ 0) && decide (v <<< 1 ≠ c.replyBufAddr) && decide (v ≠ 0xFFFFFFFF)
  | .bringup _ | .exec _ | .dbReset | .dbHandshake | .msgScsiIo | .msgIocInit | .wrDoorbell | .rdDoorbell
  | .wrIstatus | .rdIstatus | .wrImask | .wrReqq | .wrRepq | .rdRepq | .memwrFrame | .delay | .ret _
  | .tokCompletion | .tokSpuriousZero | .tokSpuriousAlias _ | .tokDrained => true

end Sys2Proof
end

