-- ==== Sys2Proof/Decode.lean ====
section
/-! DEFINITION. From bits to instructions and back. Every format has a fixed length, known from its position in the
protocol (30_encoding R146), so the decoder is told the position (`Place`) the bits were carried on. It is total on any
bytes and rejects by name. The encoder, after it, is written from the same tables. -/

namespace Sys2Proof

open Sys2Proof.Machine

/-- Where in the protocol bits are carried (R146). `memWrite` and `internal` are the places of `MEMWR_FRAME` and `DELAY`,
to which the table gives no bits (log 19). -/
inductive Place where
  | hostPort
  | doorbellCmd
  | iocInitWord (i : Nat)
  | msgFunction
  | regAccess
  | memWrite
  | internal
  | hostReply
  | replyToken
deriving DecidableEq, Repr

/-- Why bits are no instruction. -/
inductive DecodeError where
  /-- not the length the place fixes (R146) -/
  | badLength
  /-- a selector byte with a bit above bit 0 set (the selector is 1 bit wide, R142) -/
  | wideSelector
  /-- a doorbell function other than 0x40 and 0x42 (R101, R143) -/
  | unknownDoorbellFunction
  /-- a size field other than the one its function carries (R143) -/
  | wrongMessageSize
  /-- bits 15:0 of a doorbell command word not zero (R143) -/
  | doorbellLowBits
  /-- not the request word of that position (R113) -/
  | notTheRequestWord
  /-- a message function other than 0x00 and 0x02 (R143) -/
  | unknownMessageFunction
  /-- an (offset, direction) pair the engine never performs (R141, R143) -/
  | noSuchAccess
  /-- a byte that is no `STATUS_CODE` (R140) -/
  | unknownStatusCode
deriving DecidableEq, Repr

/-! ### Decoding, place by place -/

/-- The host request on the wire (log 16): the selector byte, then the inputs of R31 in order, little-endian: 40 bytes. -/
def parseHostReq (b : List Byte) : Except DecodeError HostReq :=
  if b.length ≠ 40 then .error .badLength
  else if byteAt b 0 ≠ 0 ∧ byteAt b 0 ≠ 1 then .error .wideSelector
  else .ok {
    op := (byteAt b 0).setWidth 1
    inputs := {
      iobase := word32 b 1
      target := byteAt b 5
      lun := half16 b 6
      cdb := Vector.ofFn fun k => byteAt b (8 + k.val)
      blocksize := half16 b 24
      count := half16 b 26
      dataAddr := word32 b 28
      frameAddr := word32 b 32
      senseAddr := word32 b 36 } }

/-- The operation the selector names (R142). -/
def decodeHostReq (r : HostReq) : Instr :=
  if r.op = 0 then .bringup r.inputs.iobase else .exec r.inputs

/-- A doorbell command word (R100 to R103); the errors name the field that R143 forbids. -/
def decodeDoorbell (w : Word) : Except DecodeError Instr :=
  if w.extractLsb' 0 16 ≠ 0 then .error .doorbellLowBits
  else if w.extractLsb' 24 8 = 0x40 then
    if w.extractLsb' 16 8 = 0 then .ok .dbReset else .error .wrongMessageSize
  else if w.extractLsb' 24 8 = 0x42 then
    if w.extractLsb' 16 8 = 7 then .ok .dbHandshake else .error .wrongMessageSize
  else .error .unknownDoorbellFunction

/-- A message function code (R105). -/
def decodeMsgFunction (f : Byte) : Except DecodeError Instr :=
  if f = msgFuncScsiIo then .ok .msgScsiIo
  else if f = msgFuncIocInit then .ok .msgIocInit
  else .error .unknownMessageFunction

/-- A register access, `(dir << 8) | offset` (R141, D40). -/
def decodeRegAccess (code : Half) : Except DecodeError Instr :=
  if code = 0x100 then .ok .wrDoorbell
  else if code = 0x000 then .ok .rdDoorbell
  else if code = 0x130 then .ok .wrIstatus
  else if code = 0x030 then .ok .rdIstatus
  else if code = 0x134 then .ok .wrImask
  else if code = 0x140 then .ok .wrReqq
  else if code = 0x144 then .ok .wrRepq
  else if code = 0x044 then .ok .rdRepq
  else .error .noSuchAccess

/-- A reply token (R131). The three fixed patterns are tried before the alias pattern; the patterns are disjoint (R133),
so that the class is the one `Machine.classify` finds in the order of R210. -/
def decodeToken (c : Config) (v : Word) : Instr :=
  if v = contextMagic then .tokCompletion
  else if v = 0 then .tokSpuriousZero
  else if v = drainSentinel then .tokDrained
  else if v.extractLsb' 0 31 = c.replyBufAddr.extractLsb' 1 31 then .tokSpuriousAlias (v.getLsbD 31)
  else .tokOther v

/-- The status a code stands for (R140). -/
def decodeStatus (c : Config) (b : Byte) : Except DecodeError Instr :=
  if b = c.codeSuccess then .ok (.ret .success)
  else if b = c.codeNotReady then .ok (.ret .notReady)
  else if b = c.codeBadTrack then .ok (.ret .badTrack)
  else .error .unknownStatusCode

/-- The decoder: total on any bytes. -/
def decode (c : Config) (p : Place) (b : List Byte) : Except DecodeError Instr :=
  match p with
  | .hostPort =>
    match parseHostReq b with
    | .ok r => .ok (decodeHostReq r)
    | .error e => .error e
  | .doorbellCmd => if b.length ≠ 4 then .error .badLength else decodeDoorbell (word32 b 0)
  | .iocInitWord i =>
    if b.length ≠ 4 then .error .badLength
    else if i < iocInitReqWords ∧ word32 b 0 = iocInitWord c i then .ok (.dbMsgword i)
    else .error .notTheRequestWord
  | .msgFunction => if b.length ≠ 1 then .error .badLength else decodeMsgFunction (byteAt b 0)
  | .regAccess => if b.length ≠ 2 then .error .badLength else decodeRegAccess (half16 b 0)
  | .memWrite => if b.length ≠ 0 then .error .badLength else .ok .memwrFrame
  | .internal => if b.length ≠ 0 then .error .badLength else .ok .delay
  | .hostReply => if b.length ≠ 1 then .error .badLength else decodeStatus c (byteAt b 0)
  | .replyToken => if b.length ≠ 4 then .error .badLength else .ok (decodeToken c (word32 b 0))

/-! ### Encoding -/

/-- The place an instruction is carried on. -/
def Instr.place : Instr → Place
  | .bringup _ => .hostPort
  | .exec _ => .hostPort
  | .dbReset => .doorbellCmd
  | .dbHandshake => .doorbellCmd
  | .dbMsgword i => .iocInitWord i
  | .msgScsiIo => .msgFunction
  | .msgIocInit => .msgFunction
  | .wrDoorbell => .regAccess
  | .rdDoorbell => .regAccess
  | .wrIstatus => .regAccess
  | .rdIstatus => .regAccess
  | .wrImask => .regAccess
  | .wrReqq => .regAccess
  | .wrRepq => .regAccess
  | .rdRepq => .regAccess
  | .memwrFrame => .memWrite
  | .delay => .internal
  | .ret _ => .hostReply
  | .tokCompletion => .replyToken
  | .tokSpuriousZero => .replyToken
  | .tokSpuriousAlias _ => .replyToken
  | .tokDrained => .replyToken
  | .tokOther _ => .replyToken

/-- The length in bytes that a place fixes (R146; the host request: log 16). -/
def Place.bytes : Place → Nat
  | .hostPort => 40
  | .doorbellCmd => 4
  | .iocInitWord _ => 4
  | .msgFunction => 1
  | .regAccess => 2
  | .memWrite => 0
  | .internal => 0
  | .hostReply => 1
  | .replyToken => 4

/-- A host request on the wire (log 16). -/
def hostReqBytes (r : HostReq) : List Byte :=
  [r.op.setWidth 8] ++ le32 r.inputs.iobase ++ [r.inputs.target] ++ le16 r.inputs.lun ++ r.inputs.cdb.toList
    ++ le16 r.inputs.blocksize ++ le16 r.inputs.count ++ le32 r.inputs.dataAddr ++ le32 r.inputs.frameAddr
    ++ le32 r.inputs.senseAddr

/-- The request that presents `BRINGUP(iobase)`: the other inputs are not read (R150). -/
def bringupReq (iobase : Word) : HostReq := { op := 0, inputs := { ExecInputs.zero with iobase := iobase } }

/-- The request that presents `EXEC(inputs)`. -/
def execReq (a : ExecInputs) : HostReq := { op := 1, inputs := a }

/-- The 32-bit value of a token instruction (R131, R132); 0 for the others. -/
def tokenValue (c : Config) : Instr → Word
  | .tokCompletion => contextMagic
  | .tokSpuriousZero => 0
  | .tokSpuriousAlias hi => aliasToken c hi
  | .tokDrained => drainSentinel
  | .tokOther v => v
  | _ => 0

/-- The encoder: the bytes of an instruction at its place. -/
def encode (c : Config) (i : Instr) : List Byte :=
  match i with
  | .bringup iobase => hostReqBytes (bringupReq iobase)
  | .exec a => hostReqBytes (execReq a)
  | .dbReset => le32 dbResetWord
  | .dbHandshake => le32 dbHandshakeWord
  | .dbMsgword k => le32 (iocInitWord c k)
  | .msgScsiIo => [msgFuncScsiIo]
  | .msgIocInit => [msgFuncIocInit]
  | .wrDoorbell => le16 0x100
  | .rdDoorbell => le16 0x000
  | .wrIstatus => le16 0x130
  | .rdIstatus => le16 0x030
  | .wrImask => le16 0x134
  | .wrReqq => le16 0x140
  | .wrRepq => le16 0x144
  | .rdRepq => le16 0x044
  | .memwrFrame => []
  | .delay => []
  | .ret r => [statusCode c r]
  | .tokCompletion => le32 (tokenValue c .tokCompletion)
  | .tokSpuriousZero => le32 (tokenValue c .tokSpuriousZero)
  | .tokSpuriousAlias hi => le32 (tokenValue c (.tokSpuriousAlias hi))
  | .tokDrained => le32 (tokenValue c .tokDrained)
  | .tokOther v => le32 (tokenValue c (.tokOther v))

/-! ### The frame, read back -/

/-- The variable fields of a frame (R120, R125), as its reader sees them. -/
structure FrameView where
  target : Byte
  control : Word
  cdb : Vector Byte 16
  dataLength : Word
  senseAddr : Word
  sgeFlagsLength : Word
  dataAddr : Word
deriving DecidableEq, Repr

/-- The fixed bytes of every frame the engine writes (R190): function, the two lengths, the tag, the zero fields. -/
def frameFixedOk (b : List Byte) : Bool :=
  decide (byteAt b 1 = 0) && decide (byteAt b 2 = 0) && decide (byteAt b 3 = msgFuncScsiIo)
  && decide (byteAt b 4 = 0x10) && decide (byteAt b 5 = 0x20) && decide (byteAt b 6 = 0) && decide (byteAt b 7 = 0)
  && decide (word32 b 8 = contextMagic) && decide (word32 b 12 = 0) && decide (word32 b 16 = 0)

/-- Read a frame's fields from its 56 bytes; nothing unless the length and the fixed bytes are those of R190. -/
def parseFrame (b : List Byte) : Option FrameView :=
  if b.length = 56 ∧ frameFixedOk b = true then
    some {
      target := byteAt b 0
      control := word32 b 20
      cdb := Vector.ofFn fun k => byteAt b (24 + k.val)
      dataLength := word32 b 40
      senseAddr := word32 b 44
      sgeFlagsLength := word32 b 48
      dataAddr := word32 b 52 }
  else none

/-! ### The host's table words -/

/-- The `n` low bytes of `w`, lowest first. -/
def leBytes (n w : Nat) : List Byte := (List.range n).map fun k => BitVec.ofNat 8 (w >>> (8 * k))

/-- What a decoder attempt answers. -/
def decoded : Except DecodeError Instr → Option Instr
  | .ok i => some i
  | .error _ => none

/-- The instruction the decoder reads from a table word (log 17). The table's rows come from different places, so the
row's length chooses the place: 8 bits, the host selector (0 and 1) or else a message function; 16 bits, a register
access; 32 bits, a doorbell command word or else a reply token; longer, a whole host request. Operand bytes above `nbits`
are 0. -/
def decodeTableWord (nbits w : Nat) : Option Instr :=
  if nbits ≤ 8 then
    if w < 2 then decoded (decode Config.machine .hostPort (leBytes 40 w))
    else decoded (decode Config.machine .msgFunction (leBytes 1 w))
  else if nbits ≤ 16 then decoded (decode Config.machine .regAccess (leBytes 2 w))
  else if nbits ≤ 32 then
    match decode Config.machine .doorbellCmd (leBytes 4 w) with
    | .ok i => some i
    | .error _ => decoded (decode Config.machine .replyToken (leBytes 4 w))
  else decoded (decode Config.machine .hostPort (leBytes 40 w))

end Sys2Proof
end

