-- ==== Sys2Proof/Machine/State.lean ====
section
/-! DEFINITION. The machine's state (10_state), its faults and refusals, and the state after reset (R51, R300). -/

namespace Sys2Proof.Machine

/-- The sequencing state `st` (R30). -/
inductive Seq where
  | idle
  | buReset
  | buImask
  | buIclr1
  | buHscmd
  | buSend
  | buRecv
  | buIclr2
  | buPublish
  | exCheck
  | exBuild
  | exPost
  | exStatus
  | exBackoff
  | exDrain
  | exResubmit
  | exDone
  | fault
deriving DecidableEq, Repr

/-- The reasons of a model fault (60_exceptions R276), recorded in `fault` (R38). -/
inductive ModelFault where
  | badIobase
  | badFrameAddr
  | lengthOverflow
  | unwrittenReplyStore
deriving DecidableEq, Repr

/-- One entry of the event trace (R36). -/
inductive Event where
  | wr32 (addr v : Word)
  | rd32 (addr v : Word)
  | memwr (addr : Word) (bytes : List Byte)
  | delay
deriving DecidableEq, Repr

/-- What a controller answers once its scripted answers are used up (log 3). -/
inductive AnswerTail where
  /-- it never answers again: the read is stuck (R283) -/
  | silent
  /-- any value: the free answers of `Config.answer` (R50) -/
  | free
  /-- it repeats these answers for ever -/
  | cycle (first : Word) (rest : List Word)
deriving DecidableEq, Repr

/-- The controller's answers to the reads of one register (R48, R49, R50): those ready, oldest first; what follows them; and
how many free answers were drawn. -/
structure Answers where
  ready : List Word
  tail : AnswerTail
  drawn : Nat
deriving DecidableEq, Repr

/-- What the engine drives on the host port: a returned status with its code (R244), or the observed reply store (R34). -/
inductive HostOut where
  | returned (r : Status) (code : Byte)
  | observed (halfwords : List Half)
deriving DecidableEq, Repr

/-- Whose turn it is (00_scope R15, log 14). -/
inductive Turn where
  /-- one step of the engine -/
  | engine
  /-- the host presents an operation (R142, R277) -/
  | hostPresents (r : HostReq)
  /-- the host observes the reply store (R34, R51) -/
  | hostObserves
  /-- the host writes a byte of memory (R320) -/
  | hostWrites (addr : Word) (b : Byte)
  /-- the controller writes a byte of memory by DMA (20_memory R85) -/
  | controllerWrites (addr : Word) (b : Byte)
  /-- the controller makes an answer ready (R50) -/
  | controllerAnswers (p : ReadPort) (v : Word)
  /-- the platform asserts engine reset (70_reset R300) -/
  | platformResets
deriving DecidableEq, Repr

/-- Memory space (20_memory R70): the bytes that hold a known value, by address. -/
abbrev Memory := List Host.Cell

/-- The machine's state. -/
structure State where
  /-- the instance's parameters (00_scope R8); no step changes them -/
  cfg : Config
  /-- the sequencing state (R30) -/
  st : Seq
  /-- the latched operation inputs (R31) -/
  latch : ExecInputs
  /-- the handshake index (R32) -/
  idx : Nat
  /-- the retry flag (R33) -/
  retried : Bool
  /-- the IOC-Init reply store (R34) -/
  iocReply : List Half
  /-- has a BRINGUP filled the reply store since reset (R51; log 8) -/
  replyFilled : Bool
  /-- the result register (R35) -/
  result : Option Status
  /-- the event trace (R36, ghost) -/
  trace : List Event
  /-- the fault reason (R38, ghost) -/
  fault : Option ModelFault
  /-- where the entries of the latest EXEC begin in `trace` (R37; the model's own, log 13) -/
  execMark : Nat
  /-- memory space (20_memory R70) -/
  mem : Memory
  /-- host operations presented and not yet accepted, oldest first (R142, R277; log 15) -/
  port : List HostReq
  /-- what was driven on the host port, oldest first (R34, R244; log 15) -/
  hostOut : List HostOut
  /-- answers to DOORBELL reads (R49) -/
  doorbellAns : Answers
  /-- answers to ISTATUS reads (R50) -/
  istatusAns : Answers
  /-- answers to REPQ reads: the reply FIFO (R48) -/
  repqAns : Answers
  /-- who moves next; empty: the engine (log 14) -/
  turns : List Turn
deriving DecidableEq, Repr

/-- Where a step stops with a fault. Each is safe: no claim can be proved of what follows. -/
inductive Fault where
  /-- raised by the engine's own step in the state FAULT (60_exceptions R276): the engine is stopped, with the recorded
  reason. Safe. -/
  | stopped (reason : Option ModelFault)
  /-- raised by DB_MSGWORD, WR_DOORBELL and RD_DOORBELL when the handshake index is past its bound (R32), which no
  run reaches (log 12). Safe. -/
  | indexPastBound
  /-- raised by MEMWR_FRAME and MSG_SCSI_IO when the frame would pass the end of memory space (20_memory R82), which no run
  reaches (log 10). Safe. -/
  | frameOutsideMemory
  /-- raised by the engine's step in EX_DONE when `result` is empty, which no run reaches (log 12). Safe. -/
  | noResult
deriving DecidableEq, Repr

/-- Why an instruction has no step. Each is safe: the state is left alone. -/
inductive Refusal where
  /-- raised by no instruction: the form of an arm without a meaning. Safe. -/
  | notModelled (mnemonic : String)
  /-- raised by BRINGUP and EXEC while `st` is not IDLE (60_exceptions R277): the operation stays pending. Safe. -/
  | engineBusy
  /-- raised by every other instruction in a sequencing state whose action is another one (10_state R30, 30_encoding
  R143; log 2). Safe. -/
  | outOfSequence
deriving DecidableEq, Repr

/-- A register's answers when nothing is scripted: any value (R50, R52; log 3). -/
def Answers.unscripted : Answers where
  ready := []
  tail := .free
  drawn := 0

/-- The state after reset of an engine with parameters `c` (R51, R300). Registers whose value R51 leaves unspecified are 0
(log 7). -/
def State.resetOf (c : Config) : State where
  cfg := c
  st := .idle
  latch := ExecInputs.zero
  idx := 0
  retried := false
  iocReply := List.replicate c.replyHalfwords 0
  replyFilled := false
  result := none
  trace := []
  fault := none
  execMark := 0
  mem := []
  port := []
  hostOut := []
  doorbellAns := Answers.unscripted
  istatusAns := Answers.unscripted
  repqAns := Answers.unscripted
  turns := []

/-- The machine right after reset (R51, R300). -/
def State.reset : State := State.resetOf Config.machine

end Sys2Proof.Machine
end

