-- ==== Sys2Proof/Machine/Ops.lean ====
section
/-! DEFINITION. The named operations every instruction is made of: memory, the register port, the answers of the
controller, raising a model fault, engine reset, and the updates of the engine's registers. -/

namespace Sys2Proof.Machine

/-- The outcome of a step of this machine. -/
abbrev Outcome := Host.Outcome State Fault Refusal

/-! ### Memory space (20_memory R70)

An unlisted address has no known value (log 9); the engine never reads memory (R78). -/

/-- The known value of a byte. -/
def Memory.read? : Memory → Nat → Option Byte
  | [], _ => none
  | (k, x) :: m, a => if k = a then some x else Memory.read? m a

/-- Write one byte, keeping the addresses strictly rising. -/
def Memory.write : Memory → Nat → Byte → Memory
  | [], a, b => [(a, b)]
  | (k, x) :: m, a, b =>
    if a < k then (a, b) :: (k, x) :: m
    else if a = k then (a, b) :: m
    else (k, x) :: Memory.write m a b

/-- Write bytes at rising addresses. -/
def Memory.writeBytes : Memory → Nat → List Byte → Memory
  | m, _, [] => m
  | m, a, b :: bs => Memory.writeBytes (Memory.write m a b) (a + 1) bs

/-- The canonical form: addresses strictly rising, all below 2^32. No entry can equal what an unlisted address reads as,
which is no value. -/
def Memory.wf : Memory → Bool
  | [] => true
  | [(k, _)] => decide (k < 2 ^ 32)
  | (k, _) :: (k', x) :: m => decide (k < k') && Memory.wf ((k', x) :: m)

/-! ### The register port (00_scope R12, 20_memory R71, R78) -/

/-- Set the sequencing state. -/
def State.goto (s : State) (q : Seq) : State := { s with st := q }

/-- Record a bus operation (R36). -/
def State.emit (s : State) (e : Event) : State := { s with trace := s.trace ++ [e] }

/-- `(iobase + offset) mod 2^32` (R71). -/
def regAddr (s : State) (off : Word) : Word := s.latch.iobase + off

/-- `RegWrite(off, v)` (R12). -/
def regWrite (off v : Word) (s : State) : State := s.emit (.wr32 (regAddr s off) v)

/-- The next answer of a stream and the stream after it; none: the controller gives no answer (R283). -/
def Answers.take (p : ReadPort) (a : Answers) : Option (Word × Answers) :=
  match a.ready with
  | v :: rest => some (v, { a with ready := rest })
  | [] =>
    match a.tail with
    | .silent => none
    | .free => some (Config.answer p a.drawn, { a with drawn := a.drawn + 1 })
    | .cycle v rest => some (v, { a with ready := rest })

/-- The answer stream of a register. -/
def State.answers (s : State) : ReadPort → Answers
  | .doorbell => s.doorbellAns
  | .istatus => s.istatusAns
  | .repq => s.repqAns

/-- Replace the answer stream of a register. -/
def State.setAnswers (s : State) (p : ReadPort) (a : Answers) : State :=
  match p with
  | .doorbell => { s with doorbellAns := a }
  | .istatus => { s with istatusAns := a }
  | .repq => { s with repqAns := a }

/-- `RegRead` (R12): the controller's next answer (R50), consumed (20_memory R80) and recorded; none while the controller
has not answered. -/
def regRead (p : ReadPort) (s : State) : Option (Word × State) :=
  match (s.answers p).take p with
  | none => none
  | some (v, a) => some (v, (s.setAnswers p a).emit (.rd32 (regAddr s (readOffset p)) v))

/-- A step that is one register read. While the controller has not answered, the engine is stuck in its state and nothing
changes (60_exceptions R283; log 5). -/
def onRead (p : ReadPort) (s : State) (k : Word → State → State) : Outcome :=
  match regRead p s with
  | none => .next s
  | some (v, s') => .next (k v s')

/-- `MemWrite(addr, n, b)` (R12). -/
def memWrite (addr : Word) (bytes : List Byte) (s : State) : State :=
  { s with mem := Memory.writeBytes s.mem addr.toNat bytes, trace := s.trace ++ [.memwr addr bytes] }

/-! ### Model faults and reset (60_exceptions R276, 70_reset R300) -/

/-- `raise ModelFault(r)` (R276): the engine enters FAULT and the reason is recorded. Nothing is saved (R278). -/
def raise (r : ModelFault) (s : State) : State := { s with st := .fault, fault := some r }

/-- Engine reset (R300), the one way out of FAULT: every engine element takes its value of R51. The controller, the host
port and memory keep what they hold (R301, R302). -/
def engineReset (s : State) : State :=
  { s with
    st := .idle
    latch := ExecInputs.zero
    idx := 0
    retried := false
    iocReply := List.replicate s.cfg.replyHalfwords 0
    replyFilled := false
    result := none
    trace := []
    fault := none
    execMark := 0 }

/-! ### Updates of the engine's registers -/

/-- Latch the input of `BRINGUP` (R31, R150). -/
def latchBringup (iobase : Word) (s : State) : State := { s with latch := { s.latch with iobase := iobase } }

/-- Acceptance of `EXEC` (43_command R240): latch all inputs, clear `retried` and `result`. -/
def acceptExec (a : ExecInputs) (s : State) : State :=
  { s with latch := a, retried := false, result := none, execMark := s.trace.length, st := .exCheck }

/-- End an `EXEC` with a result: `result <- r; st <- EX_DONE`. -/
def finish (r : Status) (s : State) : State := { s with result := some r, st := .exDone }

/-- `return result` on the host port, then `IDLE` (R244). -/
def hostReturn (r : Status) (s : State) : State :=
  { s with hostOut := s.hostOut ++ [.returned r (statusCode s.cfg r)], st := .idle }

/-- Set the handshake index. -/
def State.setIdx (s : State) (k : Nat) : State := { s with idx := k }

/-- Store one reply halfword and advance (R156): the low half of the value read; after the last one the store is filled. -/
def recvHalfword (v : Word) (s : State) : State :=
  if s.idx + 1 < s.cfg.replyHalfwords then
    { s with iocReply := s.iocReply.set s.idx (v.extractLsb' 0 16), idx := s.idx + 1 }
  else
    { s with iocReply := s.iocReply.set s.idx (v.extractLsb' 0 16), replyFilled := true, st := .buIclr2 }

/-- The host's observation of the reply store (R34): the halfwords, or the model fault of an unwritten store (R51, R276).
An engine already in FAULT keeps its reason (R38). -/
def observeStore (s : State) : State :=
  if s.replyFilled then { s with hostOut := s.hostOut ++ [.observed s.iocReply] }
  else if s.st = .fault then s
  else raise .unwrittenReplyStore s

/-- What a classified token does in `EX_DRAIN` (42_reply R217, R218). -/
def tokenEffect (t : TokClass) (s : State) : State :=
  match t with
  | .completion => finish .success s
  | .spurious => if s.retried then finish .badTrack s else { s with retried := true, st := .exResubmit }
  | .drained => s.goto .exStatus
  | .other => s.goto .exDrain

/-! ### Steps that more than one row of the table names (log 1) -/

/-- Run a step in the one sequencing state it belongs to; no other state performs it (R30, R143). -/
def inSeq (q : Seq) (s : State) (o : Outcome) : Outcome := if s.st = q then o else .refused .outOfSequence

/-- `BU_RESET` (40_doorbell R151). -/
def resetController (s : State) : Outcome := .next ((regWrite offDoorbell dbResetWord s).goto .buImask)

/-- `BU_HSCMD` (R154). -/
def commandHandshake (s : State) : Outcome :=
  .next (((regWrite offDoorbell dbHandshakeWord s).setIdx 0).goto .buSend)

/-- `BU_SEND` (R155): write `W[idx]`, then advance or go on to the reply. -/
def sendRequestWord (s : State) : Outcome :=
  if s.idx < iocInitReqWords then
    let s' := regWrite offDoorbell (iocInitWord s.cfg s.idx) s
    if s.idx + 1 < iocInitReqWords then .next (s'.setIdx (s.idx + 1)) else .next ((s'.setIdx 0).goto .buRecv)
  else .fault .indexPastBound

/-- `EX_BUILD` (41_scsi R190): write the frame. -/
def buildFrame (s : State) : Outcome :=
  if s.latch.frameAddr.toNat + 56 ≤ 2 ^ 32 then
    .next ((memWrite s.latch.frameAddr (encodeFrame s.cfg s.latch) s).goto .exPost)
  else .fault .frameOutsideMemory

/-! ### The checks of `EX_CHECK` (41_scsi R180 to R182, 60_exceptions R279) -/

/-- `iobase mod 4 = 0` (20_memory R82). -/
def iobaseOk (iobase : Word) : Bool := decide (iobase.toNat % 4 = 0)

/-- `frame_addr mod 8 = 0` and `frame_addr ≤ 2^32 - 56` (20_memory R82). -/
def frameAddrOk (addr : Word) : Bool := decide (addr.toNat % 8 = 0) && decide (addr.toNat ≤ 2 ^ 32 - 56)

/-- `P < 2^24` (R182). -/
def lengthOk (a : ExecInputs) : Bool := decide (xferLen a < 2 ^ 24)

/-- The step of `EX_CHECK`: no bus operation; the first condition that holds decides (R279). -/
def exCheck (s : State) : State :=
  if s.latch.lun ≠ 0 then finish .notReady s
  else if iobaseOk s.latch.iobase = false then raise .badIobase s
  else if frameAddrOk s.latch.frameAddr = false then raise .badFrameAddr s
  else if lengthOk s.latch = false then raise .lengthOverflow s
  else s.goto .exBuild

/-! ### Derived from the trace -/

/-- Is an entry a write to Request-Queue, whose address is `reqq`. -/
def Event.isPost (reqq : Word) : Event → Bool
  | .wr32 addr _ => decide (addr = reqq)
  | .rd32 _ _ | .memwr _ _ | .delay => false

/-- The submissions of the latest EXEC (10_state R37): its writes to Request-Queue. -/
def State.submissions (s : State) : Nat :=
  ((s.trace.drop s.execMark).filter (Event.isPost (regAddr s offReqq))).length

/-- The IOC-Init reply image (20_memory R76): halfword `j` in bytes `2j` and `2j+1`. No field of it has a meaning (30_encoding
R115). -/
def State.replyImage (s : State) : List Byte := s.iocReply.flatMap le16

/-- The last word the engine wrote at a register address since reset (R40): none if it wrote none. What the controller made
of it is the controller's. -/
def State.lastWritten (s : State) (addr : Word) : Option Word :=
  s.trace.foldl (fun acc e =>
    match e with
    | .wr32 a v => if a = addr then some v else acc
    | _ => acc) none

end Sys2Proof.Machine
end

