-- ==== Sys2Proof/Machine/Doorbell.lean ====
section
/-! DEFINITION. The doorbell family of 40_doorbell: the command words, the request words, the reply halfwords, and the two
accesses of the DOORBELL register. -/

namespace Sys2Proof.Machine

/-- DB_RESET (R151): step 1, in `BU_RESET`. -/
def execDbReset (s : State) : Outcome := inSeq .buReset s (resetController s)

/-- DB_HANDSHAKE (R154): step 4, in `BU_HSCMD`. -/
def execDbHandshake (s : State) : Outcome := inSeq .buHscmd s (commandHandshake s)

/-- DB_MSGWORD (R155): request word `i`, sent in `BU_SEND` when `idx = i`. -/
def execDbMsgword (i : Nat) (s : State) : Outcome :=
  inSeq .buSend s (if s.idx = i then sendRequestWord s else .refused .outOfSequence)

/-- MSG_IOC_INIT (30_encoding R105, R110): the message's function code travels in bits 31:24 of request word 0, so the row is
that word's write (log 1). -/
def execMsgIocInit (s : State) : Outcome :=
  inSeq .buSend s (if s.idx = 0 then sendRequestWord s else .refused .outOfSequence)

/-- WR_DOORBELL (R151, R154, R155): the three states that write the register, each its own word. -/
def execWrDoorbell (s : State) : Outcome :=
  match s.st with
  | .buReset => resetController s
  | .buHscmd => commandHandshake s
  | .buSend => sendRequestWord s
  | _ => .refused .outOfSequence

/-- RD_DOORBELL (R156): one reply halfword, in `BU_RECV`. -/
def execRdDoorbell (s : State) : Outcome :=
  inSeq .buRecv s
    (if s.idx < s.cfg.replyHalfwords then onRead .doorbell s recvHalfword else .fault .indexPastBound)

end Sys2Proof.Machine
end

