-- ==== Sys2Proof/Machine/Frame.lean ====
section
/-! DEFINITION. The frame write and the backoff wait. -/

namespace Sys2Proof.Machine

/-- MEMWR_FRAME (41_scsi R190): in `EX_BUILD`. -/
def execMemwrFrame (s : State) : Outcome := inSeq .exBuild s (buildFrame s)

/-- MSG_SCSI_IO (30_encoding R105, 41_scsi R190): the message is the frame, its function code frame byte 3 (log 1). -/
def execMsgScsiIo (s : State) : Outcome := inSeq .exBuild s (buildFrame s)

/-- DELAY (42_reply R216): in `EX_BACKOFF`; recorded, given no time. -/
def execDelay (s : State) : Outcome := inSeq .exBackoff s (.next ((s.emit .delay).goto .exStatus))

end Sys2Proof.Machine
end

