-- ==== Sys2Proof/Machine/HostOps.lean ====
section
/-! DEFINITION. The host operations and the return of a status: BRINGUP, EXEC, RET. -/

namespace Sys2Proof.Machine

/-- BRINGUP, acceptance (40_doorbell R150): in `IDLE` only (60_exceptions R277). A misaligned `iobase` is latched and then
raises `BAD_IOBASE`. -/
def execBringup (iobase : Word) (s : State) : Outcome :=
  if s.st = .idle then
    let s' := latchBringup iobase s
    if iobaseOk iobase then .next (s'.goto .buReset) else .next (raise .badIobase s')
  else .refused .engineBusy

/-- EXEC, acceptance (43_command R240): in `IDLE` only (R277); the checks follow in `EX_CHECK`. -/
def execExec (a : ExecInputs) (s : State) : Outcome :=
  if s.st = .idle then .next (acceptExec a s) else .refused .engineBusy

/-- RET (43_command R244): drive the result and go to `IDLE`. -/
def execRet (r : Status) (s : State) : Outcome :=
  inSeq .exDone s (if s.result = some r then .next (hostReturn r s) else .refused .outOfSequence)

end Sys2Proof.Machine
end

