-- ==== Sys2Proof/Machine/Registers.lean ====
section
/-! DEFINITION. The accesses of ISTATUS, IMASK, REQQ and REPQ. -/

namespace Sys2Proof.Machine

/-- WR_ISTATUS (40_doorbell R153, R157): write 0, in `BU_ICLR1` and in `BU_ICLR2`. -/
def execWrIstatus (s : State) : Outcome :=
  match s.st with
  | .buIclr1 => .next ((regWrite offIstatus 0 s).goto .buHscmd)
  | .buIclr2 => .next ((regWrite offIstatus 0 s).goto .buPublish)
  | _ => .refused .outOfSequence

/-- RD_ISTATUS (42_reply R215): in `EX_STATUS`; bit 3 alone decides. -/
def execRdIstatus (s : State) : Outcome :=
  inSeq .exStatus s (onRead .istatus s fun v s' => if rpl v then s'.goto .exDrain else s'.goto .exBackoff)

/-- WR_IMASK (40_doorbell R152): in `BU_IMASK`. -/
def execWrImask (s : State) : Outcome :=
  inSeq .buImask s (.next ((regWrite offImask imaskValue s).goto .buIclr1))

/-- WR_REQQ (43_command R242, 42_reply R219): post the frame address, in `EX_POST` and again in `EX_RESUBMIT`. -/
def execWrReqq (s : State) : Outcome :=
  match s.st with
  | .exPost => .next ((regWrite offReqq s.latch.frameAddr s).goto .exStatus)
  | .exResubmit => .next ((regWrite offReqq s.latch.frameAddr s).goto .exDrain)
  | _ => .refused .outOfSequence

/-- WR_REPQ (40_doorbell R158): publish the reply buffer, in `BU_PUBLISH`; BRINGUP is then complete. -/
def execWrRepq (s : State) : Outcome :=
  inSeq .buPublish s (.next ((regWrite offRepq s.cfg.replyBufAddr s).goto .idle))

/-- RD_REPQ (42_reply R217): read one token, classify it, and apply its class, in `EX_DRAIN`. -/
def execRdRepq (s : State) : Outcome :=
  inSeq .exDrain s (onRead .repq s fun v s' => tokenEffect (classify s'.cfg v) s')

end Sys2Proof.Machine
end

