-- ==== Sys2Proof/Machine/Tokens.lean ====
section
/-! DEFINITION. The reply-token classes (42_reply R210, R217, R218): what a token of the class, just read in `EX_DRAIN`,
does. The read itself is RD_REPQ. -/

namespace Sys2Proof.Machine

/-- TOK_COMPLETION: the result is SUCCESS (R217). -/
def execTokCompletion (s : State) : Outcome := inSeq .exDrain s (.next (tokenEffect .completion s))

/-- TOK_SPURIOUS_ZERO: one resubmission, then BAD_TRACK (R218). -/
def execTokSpuriousZero (s : State) : Outcome := inSeq .exDrain s (.next (tokenEffect .spurious s))

/-- TOK_SPURIOUS_ALIAS: as the zero token (R218); bit 31 does not matter (R132). -/
def execTokSpuriousAlias (_bit31 : Bool) (s : State) : Outcome := inSeq .exDrain s (.next (tokenEffect .spurious s))

/-- TOK_DRAINED: back to the status poll, no delay (R217). -/
def execTokDrained (s : State) : Outcome := inSeq .exDrain s (.next (tokenEffect .drained s))

/-- TOK_OTHER: discarded; the drain goes on (R217, D19). -/
def execTokOther (_v : Word) (s : State) : Outcome := inSeq .exDrain s (.next (tokenEffect .other s))

end Sys2Proof.Machine
end

