-- ==== Sys2Proof/Machine/Dispatch.lean ====
section
/-! DEFINITION. One arm per row of the opcode table. -/

namespace Sys2Proof.Machine

def exec (i : Instr) (s : State) : Host.Outcome State Fault Refusal :=
  match i with
  | .bringup iobase => Sys2Proof.Machine.execBringup iobase s
  | .exec a => Sys2Proof.Machine.execExec a s
  | .dbReset => Sys2Proof.Machine.execDbReset s
  | .dbHandshake => Sys2Proof.Machine.execDbHandshake s
  | .dbMsgword k => Sys2Proof.Machine.execDbMsgword k s
  | .msgScsiIo => Sys2Proof.Machine.execMsgScsiIo s
  | .msgIocInit => Sys2Proof.Machine.execMsgIocInit s
  | .wrDoorbell => Sys2Proof.Machine.execWrDoorbell s
  | .rdDoorbell => Sys2Proof.Machine.execRdDoorbell s
  | .wrIstatus => Sys2Proof.Machine.execWrIstatus s
  | .rdIstatus => Sys2Proof.Machine.execRdIstatus s
  | .wrImask => Sys2Proof.Machine.execWrImask s
  | .wrReqq => Sys2Proof.Machine.execWrReqq s
  | .wrRepq => Sys2Proof.Machine.execWrRepq s
  | .rdRepq => Sys2Proof.Machine.execRdRepq s
  | .memwrFrame => Sys2Proof.Machine.execMemwrFrame s
  | .delay => Sys2Proof.Machine.execDelay s
  | .ret r => Sys2Proof.Machine.execRet r s
  | .tokCompletion => Sys2Proof.Machine.execTokCompletion s
  | .tokSpuriousZero => Sys2Proof.Machine.execTokSpuriousZero s
  | .tokSpuriousAlias hi => Sys2Proof.Machine.execTokSpuriousAlias hi s
  | .tokDrained => Sys2Proof.Machine.execTokDrained s
  | .tokOther v => Sys2Proof.Machine.execTokOther v s

end Sys2Proof.Machine
end

