-- ==== Sys2Proof/Machine/Engine.lean ====
section
/-! DEFINITION. The sequencer: which instruction the engine performs next (10_state R30), one step of the engine, one step
of another agent, and how a given instruction is placed so that it comes next. -/

namespace Sys2Proof.Machine

/-- The instruction the engine performs next (R30): the "fetch". None: `EX_CHECK`, whose step has no row of its own; `FAULT`;
`IDLE` with nothing presented; an empty result in `EX_DONE`. -/
def nextInstr (s : State) : Option Instr :=
  match s.st with
  | .idle => s.port.head?.map decodeHostReq
  | .buReset => some .dbReset
  | .buImask => some .wrImask
  | .buIclr1 => some .wrIstatus
  | .buHscmd => some .dbHandshake
  | .buSend => some (.dbMsgword s.idx)
  | .buRecv => some .rdDoorbell
  | .buIclr2 => some .wrIstatus
  | .buPublish => some .wrRepq
  | .exCheck => none
  | .exBuild => some .memwrFrame
  | .exPost => some .wrReqq
  | .exStatus => some .rdIstatus
  | .exBackoff => some .delay
  | .exDrain => some .rdRepq
  | .exResubmit => some .wrReqq
  | .exDone => s.result.map .ret
  | .fault => none

/-- The state in which that instruction runs: in `IDLE` the accepted operation has left the host port. -/
def afterFetch (s : State) : State := if s.st = .idle then { s with port := s.port.tail } else s

/-- The engine's step where no instruction comes next: it waits in `IDLE` (R30), checks in `EX_CHECK` (41_scsi R180 to R182),
and is stopped in `FAULT` (60_exceptions R276). -/
def stepWithoutInstr (s : State) : Outcome :=
  match s.st with
  | .exCheck => .next (exCheck s)
  | .fault => .fault (.stopped s.fault)
  | .exDone => .fault .noResult
  | _ => .next s

/-- One step of the engine. -/
def engineStep (s : State) : Outcome :=
  match nextInstr s with
  | some i => exec i (afterFetch s)
  | none => stepWithoutInstr s

/-- One step of the agent whose turn it is (00_scope R15, log 14). -/
def turnStep (t : Turn) (s : State) : Outcome :=
  match t with
  | .engine => engineStep s
  | .hostPresents r => .next { s with port := s.port ++ [r] }
  | .hostObserves => .next (observeStore s)
  | .hostWrites addr b => .next { s with mem := Memory.write s.mem addr.toNat b }
  | .controllerWrites addr b => .next { s with mem := Memory.write s.mem addr.toNat b }
  | .controllerAnswers p v =>
    .next (s.setAnswers p { s.answers p with ready := (s.answers p).ready ++ [v] })
  | .platformResets => .next (engineReset s)

/-- One step of the machine: the turn at the head of `turns`, or the engine's when there is none. -/
def machineStep (s : State) : Outcome :=
  match s.turns with
  | [] => engineStep s
  | t :: rest => turnStep t { s with turns := rest }

/-- An answer stream that answers: the stream itself, or, of one that is silent, with one zero answer ready. -/
def Answers.answering (p : ReadPort) (a : Answers) : Answers :=
  match a.take p with
  | some _ => a
  | none => { a with ready := [0] }

/-- Put a token at the head of the reply FIFO, with the engine in `EX_DRAIN`. -/
def placeToken (v : Word) (s : State) : State :=
  { s with st := .exDrain, repqAns := { s.repqAns with ready := v :: s.repqAns.ready } }

/-- Place an instruction where the engine performs its next one (log 18): a host operation at the head of the host port, a
token at the head of the reply FIFO, any other by its sequencing state. -/
def place (i : Instr) (s : State) : State :=
  match i with
  | .bringup iobase => { s with st := .idle, port := bringupReq iobase :: s.port }
  | .exec a => { s with st := .idle, port := execReq a :: s.port }
  | .dbReset | .wrDoorbell => s.goto .buReset
  | .dbHandshake => s.goto .buHscmd
  | .dbMsgword k => (s.setIdx k).goto .buSend
  | .msgIocInit => (s.setIdx 0).goto .buSend
  | .rdDoorbell => { s with st := .buRecv, idx := 0, doorbellAns := s.doorbellAns.answering .doorbell }
  | .wrIstatus => s.goto .buIclr1
  | .rdIstatus => { s with st := .exStatus, istatusAns := s.istatusAns.answering .istatus }
  | .wrImask => s.goto .buImask
  | .wrReqq => s.goto .exPost
  | .wrRepq => s.goto .buPublish
  | .rdRepq => { s with st := .exDrain, repqAns := s.repqAns.answering .repq }
  | .memwrFrame | .msgScsiIo => s.goto .exBuild
  | .delay => s.goto .exBackoff
  | .ret r => { s with st := .exDone, result := some r }
  | .tokCompletion => placeToken (tokenValue s.cfg .tokCompletion) s
  | .tokSpuriousZero => placeToken (tokenValue s.cfg .tokSpuriousZero) s
  | .tokSpuriousAlias hi => placeToken (tokenValue s.cfg (.tokSpuriousAlias hi)) s
  | .tokDrained => placeToken (tokenValue s.cfg .tokDrained) s
  | .tokOther v => placeToken v s

/-- Make the very next step the engine's. -/
def engineFirst (s : State) : State := { s with turns := .engine :: s.turns }

end Sys2Proof.Machine
end

