-- ==== Sys2Proof/Safety.lean ====
section
/-! DEFINITION. What a good state is: the invariant every step keeps, what the engine may emit, and the terms the claims
about runs use. -/

namespace Sys2Proof

/-- The instructions that accept a host operation. -/
def Instr.accepts : Instr → Bool
  | .bringup _ | .exec _ => true
  | .dbReset | .dbHandshake | .dbMsgword _ | .msgScsiIo | .msgIocInit | .wrDoorbell | .rdDoorbell | .wrIstatus
  | .rdIstatus | .wrImask | .wrReqq | .wrRepq | .rdRepq | .memwrFrame | .delay | .ret _ | .tokCompletion
  | .tokSpuriousZero | .tokSpuriousAlias _ | .tokDrained | .tokOther _ => false

/-- The instructions that move the handshake index (10_state R32). -/
def Instr.movesIdx : Instr → Bool
  | .dbHandshake | .dbMsgword _ | .msgIocInit | .wrDoorbell | .rdDoorbell => true
  | .bringup _ | .exec _ | .dbReset | .msgScsiIo | .wrIstatus | .rdIstatus | .wrImask | .wrReqq | .wrRepq | .rdRepq
  | .memwrFrame | .delay | .ret _ | .tokCompletion | .tokSpuriousZero | .tokSpuriousAlias _ | .tokDrained
  | .tokOther _ => false

/-- The instructions that may write `retried` or `result` (10_state R33, R35). -/
def Instr.writesOutcome : Instr → Bool
  | .exec _ | .rdRepq | .tokCompletion | .tokSpuriousZero | .tokSpuriousAlias _ => true
  | .bringup _ | .dbReset | .dbHandshake | .dbMsgword _ | .msgScsiIo | .msgIocInit | .wrDoorbell | .rdDoorbell
  | .wrIstatus | .rdIstatus | .wrImask | .wrReqq | .wrRepq | .memwrFrame | .delay | .ret _ | .tokDrained
  | .tokOther _ => false

end Sys2Proof

namespace Sys2Proof.Machine

/-- The states of a running `BRINGUP` (10_state R30). -/
def Seq.inBringup : Seq → Bool
  | .buReset | .buImask | .buIclr1 | .buHscmd | .buSend | .buRecv | .buIclr2 | .buPublish => true
  | .idle | .exCheck | .exBuild | .exPost | .exStatus | .exBackoff | .exDrain | .exResubmit | .exDone | .fault => false

/-- The states of an `EXEC` that has passed its checks and has no result yet. -/
def Seq.pastChecks : Seq → Bool
  | .exBuild | .exPost | .exStatus | .exBackoff | .exDrain | .exResubmit => true
  | .idle | .buReset | .buImask | .buIclr1 | .buHscmd | .buSend | .buRecv | .buIclr2 | .buPublish | .exCheck
  | .exDone | .fault => false

/-- The states of the poll loop in which the first request is posted and no resubmission is under way. -/
def Seq.polling : Seq → Bool
  | .exStatus | .exBackoff | .exDrain => true
  | .idle | .buReset | .buImask | .buIclr1 | .buHscmd | .buSend | .buRecv | .buIclr2 | .buPublish | .exCheck
  | .exBuild | .exPost | .exResubmit | .exDone | .fault => false

/-- The four conditions of the checks (41_scsi R180 to R182), all met. -/
def inputsOk (a : ExecInputs) : Bool :=
  decide (a.lun = 0) && iobaseOk a.iobase && frameAddrOk a.frameAddr && lengthOk a

/-- The submissions an `EXEC` has made once its request is posted (42_reply R222): one, and one more if it has retried. -/
def postedCount (retried : Bool) : Nat := if retried then 2 else 1

/-- The invariant. -/
structure Inv (s : State) : Prop where
  /-- memory is in its canonical form -/
  memCanonical : s.mem.wf = true
  /-- the reply store has `IOC_INIT_REPLY_HALFWORDS` entries (R34) -/
  storeLength : s.iocReply.length = s.cfg.replyHalfwords
  /-- the handshake index is in bounds while it is used (R32) -/
  sendIndex : s.st = .buSend → s.idx < iocInitReqWords
  recvIndex : s.st = .buRecv → s.idx < s.cfg.replyHalfwords
  /-- a reason is recorded in FAULT and nowhere else (R38, R276) -/
  faultRecorded : s.st = .fault ↔ s.fault.isSome = true
  /-- a running BRINGUP has an aligned base (R150) -/
  bringupAligned : s.st.inBringup = true → iobaseOk s.latch.iobase = true
  /-- past `EX_CHECK` every check holds (R180 to R182) -/
  checksHold : s.st.pastChecks = true → inputsOk s.latch = true
  /-- a running EXEC has no result (R240); `EX_DONE` has one (R244) -/
  noResultYet : s.st = .exCheck ∨ s.st.pastChecks = true → s.result = none
  resultReady : s.st = .exDone → s.result.isSome = true
  /-- the entries of the latest EXEC are in the trace (R37) -/
  markInTrace : s.execMark ≤ s.trace.length
  /-- nothing posted before `EX_POST`, once after it, twice after a resubmission (R222) -/
  beforePost : s.st = .exCheck ∨ s.st = .exBuild ∨ s.st = .exPost → s.submissions = 0 ∧ s.retried = false
  polling : s.st.polling = true → s.submissions = postedCount s.retried
  resubmitting : s.st = .exResubmit → s.submissions = 1 ∧ s.retried = true
  /-- what a result says of its EXEC (R243, R222) -/
  doneNotReady : s.st = .exDone → s.result = some .notReady → s.latch.lun ≠ 0 ∧ s.submissions = 0
  doneSuccess : s.st = .exDone → s.result = some .success →
    s.latch.lun = 0 ∧ s.submissions = postedCount s.retried
  doneBadTrack : s.st = .exDone → s.result = some .badTrack →
    s.latch.lun = 0 ∧ s.retried = true ∧ s.submissions = 2

/-- The bus operations the engine may perform in a state (30_encoding R141, R143): the eight register accesses, each write
with the words the rules give it, the frame write, and the delay. -/
def Event.allowed (s : State) : Event → Prop
  | .wr32 addr v =>
    (addr = regAddr s offDoorbell ∧ (v = dbResetWord ∨ v = dbHandshakeWord ∨ ∃ i < iocInitReqWords, v = iocInitWord s.cfg i))
    ∨ (addr = regAddr s offIstatus ∧ v = 0)
    ∨ (addr = regAddr s offImask ∧ v = imaskValue)
    ∨ (addr = regAddr s offReqq ∧ v = s.latch.frameAddr)
    ∨ (addr = regAddr s offRepq ∧ v = s.cfg.replyBufAddr)
  | .rd32 addr _ => addr = regAddr s offDoorbell ∨ addr = regAddr s offIstatus ∨ addr = regAddr s offRepq
  | .memwr addr bytes => addr = s.latch.frameAddr ∧ bytes = encodeFrame s.cfg s.latch
  | .delay => True

/-- One of two byte ranges ends at or before the other begins. DESIGN CHOICE: a range that passes 2^32 does not wrap to low
addresses, so it is apart from a range there (log 21); an empty range strictly inside another is not apart from it, though
they share no address (log 22). The spec says neither. -/
def rangesApart (base₁ : Word) (n₁ : Nat) (base₂ : Word) (n₂ : Nat) : Bool :=
  decide (base₁.toNat + n₁ ≤ base₂.toNat) || decide (base₂.toNat + n₂ ≤ base₁.toNat)

/-- The host's duty that the regions of a command overlap neither each other nor the reply buffer (70_reset R313). The engine
does not check it. -/
def regionsApart (c : Config) (a : ExecInputs) : Bool :=
  [Region.requestFrame, .senseBuffer, .dataBuffer, .replyBuffer].all fun r =>
    [Region.requestFrame, .senseBuffer, .dataBuffer, .replyBuffer].all fun q =>
      decide (r = q) || rangesApart (regionBase c a r) (regionBytes c a r) (regionBase c a q) (regionBytes c a q)

/-- The state with another memory. -/
def State.withMem (s : State) (m : Memory) : State := { s with mem := m }

/-- The state with other memory forgotten: what is left to compare of two runs that may differ in memory alone. -/
def Outcome.forgetMem : Outcome → Outcome
  | .next s => .next (s.withMem [])
  | .fault r => .fault r
  | .refused r => .refused r

/-- `k` steps of the machine. -/
def run (k : Nat) (s : State) : Outcome := Sys2Proof.core.run k s

/-- The class a token instruction stands for (42_reply R210). -/
def tokClassOf : Instr → Option TokClass
  | .tokCompletion => some .completion
  | .tokSpuriousZero | .tokSpuriousAlias _ => some .spurious
  | .tokDrained => some .drained
  | .tokOther _ => some .other
  | .bringup _ | .exec _ | .dbReset | .dbHandshake | .dbMsgword _ | .msgScsiIo | .msgIocInit | .wrDoorbell
  | .rdDoorbell | .wrIstatus | .rdIstatus | .wrImask | .wrReqq | .wrRepq | .rdRepq | .memwrFrame | .delay
  | .ret _ => none

/-- The bus operations of one complete BRINGUP (40_doorbell R161), for the answers `vs` of its DOORBELL reads. -/
def bringupTrace (c : Config) (iobase : Word) (vs : List Word) : List Event :=
  [.wr32 iobase 0x40000000, .wr32 (iobase + 0x34) 0x00000009, .wr32 (iobase + 0x30) 0, .wr32 iobase 0x42070000]
    ++ (List.range 7).map (fun i => .wr32 iobase (iocInitWord c i))
    ++ vs.map (fun v => .rd32 iobase v)
    ++ [.wr32 (iobase + 0x30) 0, .wr32 (iobase + 0x44) c.replyBufAddr]

end Sys2Proof.Machine
end

