-- ==== Sys2Proof/Certificates/Slice0/Obligations.lean ====
section
/-! DEFINITION. The statements for the provers. Each docstring names the rule of spec/ it formalises; where it rests on a
decision the spec marks as its own, or on a choice of the model, it says so. -/

open Sys2Proof Sys2Proof.Machine

/-! ### Formats and decoding -/

/-- 30_encoding R100: the doorbell command word's formula, and the fields it makes. -/
def Obligations.DoorbellCommandFields : Prop :=
  ∀ f n : Word,
    doorbellCmd f n = (((f &&& 0xFF) <<< 24) ||| ((n &&& 0xFF) <<< 16))
    ∧ (doorbellCmd f n).extractLsb' 24 8 = f.extractLsb' 0 8
    ∧ (doorbellCmd f n).extractLsb' 16 8 = n.extractLsb' 0 8
    ∧ (doorbellCmd f n).extractLsb' 0 16 = 0

/-- 30_encoding §3 (the layout is the spec's decision D9): the seven request words. -/
def Obligations.RequestWordFormulas : Prop :=
  ∀ c : Config,
    iocInitWord c 0 = 0x02000000 ||| c.whoInit.setWidth 32
    ∧ iocInitWord c 1 = (c.initFlags.setWidth 32 ||| (c.maxDevices.setWidth 32 <<< 8)
        ||| (c.maxBuses.setWidth 32 <<< 16) ||| (c.initMsgFlags.setWidth 32 <<< 24))
    ∧ iocInitWord c 2 = c.initContext
    ∧ iocInitWord c 3 = c.replyBufBytes.setWidth 32
    ∧ iocInitWord c 4 = c.initTail0
    ∧ iocInitWord c 5 = c.initTail1
    ∧ iocInitWord c 6 = c.initTail2

/-- 30_encoding R112: bytes 12 and 13 of the request image are `REPLY_BUF_BYTES`, in every instance. -/
def Obligations.ReplyFrameSizeIsBufferSize : Prop :=
  ∀ c : Config, half16 (iocInitImage c) 12 = c.replyBufBytes

/-- 41_scsi §4 (the layout is the spec's decisions D12, D13): the fields of the frame at their offsets. -/
def Obligations.FrameFieldsAtOffsets : Prop :=
  ∀ (c : Config) (a : ExecInputs),
    let F := encodeFrame c a
    F.length = 56
    ∧ byteAt F 0 = a.target ∧ byteAt F 1 = 0 ∧ byteAt F 2 = 0 ∧ byteAt F 3 = 0x00
    ∧ byteAt F 4 = 16 ∧ byteAt F 5 = 32 ∧ byteAt F 6 = 0 ∧ byteAt F 7 = 0
    ∧ word32 F 8 = 0xAAAA5555
    ∧ (byteAt F 12 = 0 ∧ byteAt F 13 = a.lun.extractLsb' 0 8 ∧ ∀ k, 14 ≤ k → k < 20 → byteAt F k = 0)
    ∧ word32 F 20 = (if a.blocksize = 0 then (0 : Word) else if a.cdb[0] ∈ c.writeOps then c.ctrlDataOut else c.ctrlDataIn)
    ∧ (∀ k : Fin 16, byteAt F (24 + k.val) = a.cdb[k])
    ∧ word32 F 40 = BitVec.ofNat 32 (a.count.toNat * a.blocksize.toNat)
    ∧ word32 F 44 = a.senseAddr
    ∧ word32 F 52 = a.dataAddr

/-- 30_encoding §6 and 41_scsi §3 (the bit places are the spec's decisions D12, D14, D38): the scatter-gather word of a
command that passes the length check. -/
def Obligations.ScatterGatherWordFields : Prop :=
  ∀ (c : Config) (a : ExecInputs), a.count.toNat * a.blocksize.toNat < 2 ^ 24 →
    let w := word32 (encodeFrame c a) 48
    (w.extractLsb' 0 24).toNat = a.count.toNat * a.blocksize.toNat
    ∧ w.getLsbD 24 = true ∧ w.getLsbD 25 = false
    ∧ w.getLsbD 26 = (decide (a.blocksize ≠ 0) && decide (a.cdb[0] ∈ c.writeOps))
    ∧ w.getLsbD 27 = false ∧ w.extractLsb' 28 2 = c.sgeElementType
    ∧ w.getLsbD 30 = true ∧ w.getLsbD 31 = true

/-- 30_encoding §5, §6: the frame of a LUN-0 command reads back to its fields, so no bit of a field is dropped (`parseFrame`
is the model's reader of a frame). -/
def Obligations.FrameReadsBack : Prop :=
  ∀ (c : Config) (a : ExecInputs), a.lun = 0 →
    parseFrame (encodeFrame c a) = some {
      target := a.target
      control := controlWord c (inputsDirection c a)
      cdb := a.cdb
      dataLength := dataLength a
      senseAddr := a.senseAddr
      sgeFlagsLength := sgeFlagsLength c a
      dataAddr := a.dataAddr }

/-- 30_encoding (all formats): decoding an encoded well-formed instruction gives it back, with every operand. The wire form
of a host request is the model's (log 16). -/
def Obligations.DecodeOfEncode : Prop :=
  ∀ (c : Config) (i : Instr), i.wf c = true → decode c i.place (encode c i) = .ok i

/-- 30_encoding §8: every 32-bit token decodes to a well-formed token instruction that stands for that very value. -/
def Obligations.TokenStandsForItsValue : Prop :=
  ∀ (c : Config) (v : Word), (decodeToken c v).wf c = true ∧ tokenValue c (decodeToken c v) = v

/-- 30_encoding §8 (an inference of the spec): which tokens alias the reply buffer. They are the two that `aliasToken` gives,
and the decoder reads exactly these as alias tokens. -/
def Obligations.AliasTokensAreTwo : Prop :=
  ∀ (c : Config) (v : Word),
    (shl1 v = c.replyBufAddr ↔ v = aliasToken c false ∨ v = aliasToken c true)
    ∧ (∀ bit31, decodeToken c v = .tokSpuriousAlias bit31 ↔ v = aliasToken c bit31)
    ∧ (shl1 v = c.replyBufAddr ↔ v.extractLsb' 0 31 = c.replyBufAddr.extractLsb' 1 31)
    ∧ (shl1 v = c.replyBufAddr ↔ v &&& 0x7FFFFFFF = c.replyBufAddr >>> 1)
    ∧ aliasToken c false = c.replyBufAddr >>> 1
    ∧ aliasToken c true = (c.replyBufAddr >>> 1) ||| 0x80000000
    ∧ aliasToken c false ≠ aliasToken c true

/-- 30_encoding §8 and 42_reply §1 (an inference of the spec; the class OTHER is its decision D19): each class is its own
pattern, whatever the order of the comparisons. -/
def Obligations.ClassesAreTheirPatterns : Prop :=
  ∀ (c : Config) (v : Word),
    (classify c v = .completion ↔ v = 0xAAAA5555)
    ∧ (classify c v = .spurious ↔ v = 0 ∨ v <<< 1 = c.replyBufAddr)
    ∧ (classify c v = .drained ↔ v = 0xFFFFFFFF)
    ∧ (classify c v = .other ↔ v ≠ 0xAAAA5555 ∧ v ≠ 0 ∧ v <<< 1 ≠ c.replyBufAddr ∧ v ≠ 0xFFFFFFFF)

/-- 42_reply §1: the decoder and the poller's classifier, which compare in different orders, agree on every token. -/
def Obligations.DecoderAgreesWithClassifier : Prop :=
  ∀ (c : Config) (v : Word), tokClassOf (decodeToken c v) = some (classify c v)

/-- 30_encoding §9, §10 (the packing is the spec's decision D40): exactly eight register-access codes decode. -/
def Obligations.EightRegisterAccesses : Prop :=
  ∀ (c : Config) (b : List Byte) (i : Instr),
    decode c .regAccess b = .ok i ↔
      b.length = 2 ∧ (half16 b 0, i) ∈ [(0x100, Instr.wrDoorbell), (0x000, .rdDoorbell), (0x130, .wrIstatus),
        (0x030, .rdIstatus), (0x134, .wrImask), (0x140, .wrReqq), (0x144, .wrRepq), (0x044, .rdRepq)]

/-- 30_encoding, opcode_table.json: words written out from the table. That a bare 8-bit 0 is BRINGUP is the model's choice
(log 17): the table gives MSG_SCSI_IO the same 8 bits, and `decodeTableWord` takes the place of a word from its length. -/
def Obligations.TableWordsDecode : Prop :=
  decodeTableWord 8 0 = some (.bringup 0)
  ∧ decodeTableWord 32 0x40000000 = some .dbReset
  ∧ decodeTableWord 32 0x42070000 = some .dbHandshake
  ∧ decodeTableWord 8 2 = some .msgIocInit
  ∧ decodeTableWord 16 0x140 = some .wrReqq
  ∧ decodeTableWord 16 0x044 = some .rdRepq
  ∧ decodeTableWord 32 0xAAAA5555 = some .tokCompletion
  ∧ decodeTableWord 32 0xFFFFFFFF = some .tokDrained

/-! ### A step runs the decoded instruction -/

/-- 10_state §1: when the engine moves, its step is `exec` of the instruction its state names; in `IDLE` the accepted
operation has left the host port. A scheduled engine turn is the same step (turns: log 14). Which instruction a state names:
`SequencingStateNamesInstruction`. -/
def Obligations.StepRunsNextInstruction : Prop :=
  ∀ (s : State) (i : Instr), nextInstr s = some i →
    (s.turns = [] → step s = exec i (if s.st = .idle then { s with port := s.port.tail } else s))
    ∧ (∀ rest, s.turns = .engine :: rest →
        step s = exec i (if s.st = .idle then { s with port := s.port.tail, turns := rest } else { s with turns := rest }))

/-- 10_state §1, the table of sequencing states: which instruction each state names, and where it names none. Which row of the
opcode table stands for an action that several rows name is the model's choice (log 1). -/
def Obligations.SequencingStateNamesInstruction : Prop :=
  ∀ s : State,
    (s.st = .idle →
      (s.port = [] → nextInstr s = none)
      ∧ (∀ r rest, s.port = r :: rest →
          (r.op = 0 → nextInstr s = some (.bringup r.inputs.iobase))
          ∧ (r.op = 1 → nextInstr s = some (.exec r.inputs))))
    ∧ (s.st = .buReset → nextInstr s = some .dbReset)
    ∧ (s.st = .buImask → nextInstr s = some .wrImask)
    ∧ (s.st = .buIclr1 → nextInstr s = some .wrIstatus)
    ∧ (s.st = .buHscmd → nextInstr s = some .dbHandshake)
    ∧ (s.st = .buSend → nextInstr s = some (.dbMsgword s.idx))
    ∧ (s.st = .buRecv → nextInstr s = some .rdDoorbell)
    ∧ (s.st = .buIclr2 → nextInstr s = some .wrIstatus)
    ∧ (s.st = .buPublish → nextInstr s = some .wrRepq)
    ∧ (s.st = .exCheck → nextInstr s = none)
    ∧ (s.st = .exBuild → nextInstr s = some .memwrFrame)
    ∧ (s.st = .exPost → nextInstr s = some .wrReqq)
    ∧ (s.st = .exStatus → nextInstr s = some .rdIstatus)
    ∧ (s.st = .exBackoff → nextInstr s = some .delay)
    ∧ (s.st = .exDrain → nextInstr s = some .rdRepq)
    ∧ (s.st = .exResubmit → nextInstr s = some .wrReqq)
    ∧ (∀ r, s.st = .exDone → s.result = some r → nextInstr s = some (.ret r))
    ∧ (s.st = .fault → nextInstr s = none)

/-- 43_command R240, 40_doorbell R150 (host port: the spec's decision D4; its bytes: log 16): in `IDLE` the step runs the
instruction that the bytes of the presented request decode to. -/
def Obligations.StepRunsPresentedOperation : Prop :=
  ∀ (s : State) (b : List Byte) (r : HostReq) (rest : List HostReq),
    parseHostReq b = .ok r → s.turns = [] → s.st = .idle → s.port = r :: rest →
    ∃ i, decode s.cfg .hostPort b = .ok i ∧ step s = exec i { s with port := rest }

/-- 42_reply §2: in `EX_DRAIN` the step reads a token and runs the instruction that token decodes to. -/
def Obligations.StepRunsDecodedToken : Prop :=
  ∀ (s : State) (v : Word) (a : Answers),
    s.turns = [] → s.st = .exDrain → s.repqAns.take .repq = some (v, a) →
    step s = exec (decodeToken s.cfg v)
      { s with repqAns := a, trace := s.trace ++ [.rd32 (s.latch.iobase + 0x44) v] }

/-! ### Host operations -/

/-- 40_doorbell, acceptance of BRINGUP (the port protocol is the spec's decision D4, the fault its decision D17). -/
def Obligations.BringupAccepted : Prop :=
  ∀ (s : State) (ib : Word), s.st = .idle →
    (ib.toNat % 4 = 0 →
      exec (.bringup ib) s = .next { s with latch := { s.latch with iobase := ib }, st := .buReset })
    ∧ (ib.toNat % 4 ≠ 0 →
      exec (.bringup ib) s
        = .next { s with latch := { s.latch with iobase := ib }, st := .fault, fault := some .badIobase })

/-- 43_command, acceptance of EXEC (the spec's decisions D4, D18; `execMark` is the model's, log 13). -/
def Obligations.ExecAccepted : Prop :=
  ∀ (s : State) (a : ExecInputs), s.st = .idle →
    exec (.exec a) s
      = .next { s with latch := a, retried := false, result := none, execMark := s.trace.length, st := .exCheck }

/-- 60_exceptions, refusals (the spec's decision D4): a busy engine does not accept a host operation. -/
def Obligations.BusyEngineRefuses : Prop :=
  ∀ (s : State) (ib : Word) (a : ExecInputs), s.st ≠ .idle →
    exec (.bringup ib) s = .refused .engineBusy ∧ exec (.exec a) s = .refused .engineBusy

/-- 60_exceptions, refusals (the spec's decision D4): what is presented to a busy engine stays on the port, in order. -/
def Obligations.PresentedOperationStaysPending : Prop :=
  ∀ s t : State, s.st ≠ .idle → step s = .next t → ∃ more, t.port = s.port ++ more

/-- 41_scsi R180: the LUN check is the first action of every EXEC: a LUN other than 0 makes the result NOT_READY, with no bus
operation and no fault; with LUN 0 the step goes on to the other checks and makes no result. -/
def Obligations.LunCheckIsFirst : Prop :=
  ∀ s : State, s.turns = [] → s.st = .exCheck →
    (s.latch.lun ≠ 0 → step s = .next { s with result := some .notReady, st := .exDone })
    ∧ (s.latch.lun = 0 → ∃ t, step s = .next t ∧ t.st ≠ .exDone ∧ t.result = s.result ∧ t.trace = s.trace)

/-- 60_exceptions, priority of the checks (the spec's decisions D17, D18): with LUN 0, the first condition that holds
decides. -/
def Obligations.ChecksInOrder : Prop :=
  ∀ s : State, s.turns = [] → s.st = .exCheck → s.latch.lun = 0 →
    step s = .next (
      if s.latch.iobase.toNat % 4 ≠ 0 then { s with st := .fault, fault := some .badIobase }
      else if s.latch.frameAddr.toNat % 8 ≠ 0 ∨ s.latch.frameAddr.toNat > 2 ^ 32 - 56 then
        { s with st := .fault, fault := some .badFrameAddr }
      else if s.latch.count.toNat * s.latch.blocksize.toNat ≥ 2 ^ 24 then
        { s with st := .fault, fault := some .lengthOverflow }
      else { s with st := .exBuild })

/-- 43_command, `EX_DONE`: return the result with its code and go to `IDLE`. That the host port keeps what was driven on it, as
the list `hostOut`, is the model's choice (log 15). -/
def Obligations.ResultReturned : Prop :=
  ∀ (s : State) (r : Status), s.st = .exDone → s.result = some r →
    exec (.ret r) s = .next { s with hostOut := s.hostOut ++ [.returned r (statusCode s.cfg r)], st := .idle }

/-! ### The doorbell handshake -/

/-- 40_doorbell, step 1 (the size field 0 is the spec's decision D5; the two rows name one step: log 1). -/
def Obligations.ResetWordWritten : Prop :=
  ∀ s : State, s.st = .buReset →
    let t : State := { s with trace := s.trace ++ [.wr32 s.latch.iobase 0x40000000], st := .buImask }
    exec .dbReset s = .next t ∧ exec .wrDoorbell s = .next t

/-- 40_doorbell, step 2 (the value is the spec's decision D6). -/
def Obligations.InterruptMaskWritten : Prop :=
  ∀ s : State, s.st = .buImask →
    exec .wrImask s = .next { s with trace := s.trace ++ [.wr32 (s.latch.iobase + 0x34) 0x00000009], st := .buIclr1 }

/-- 40_doorbell, steps 3 and 7 (the value is the spec's decision D7). -/
def Obligations.InterruptStatusCleared : Prop :=
  ∀ s : State,
    (s.st = .buIclr1 →
      exec .wrIstatus s = .next { s with trace := s.trace ++ [.wr32 (s.latch.iobase + 0x30) 0], st := .buHscmd })
    ∧ (s.st = .buIclr2 →
      exec .wrIstatus s = .next { s with trace := s.trace ++ [.wr32 (s.latch.iobase + 0x30) 0], st := .buPublish })

/-- 40_doorbell, step 4: the handshake command word. That WR_DOORBELL is this same step in `BU_HSCMD` is the model's choice
(log 1). -/
def Obligations.HandshakeWordWritten : Prop :=
  ∀ s : State, s.st = .buHscmd →
    let t : State := { s with trace := s.trace ++ [.wr32 s.latch.iobase 0x42070000], idx := 0, st := .buSend }
    exec .dbHandshake s = .next t ∧ exec .wrDoorbell s = .next t

/-- 40_doorbell, step 5 (no wait between words: the spec's decision D8): one request word, then the next or the reply. The
rows that name this step: log 1. -/
def Obligations.RequestWordSent : Prop :=
  ∀ s : State, s.st = .buSend → s.idx < 7 →
    let s' : State := { s with trace := s.trace ++ [.wr32 s.latch.iobase (iocInitWord s.cfg s.idx)] }
    let t : State := if s.idx + 1 < 7 then { s' with idx := s.idx + 1 } else { s' with idx := 0, st := .buRecv }
    exec (.dbMsgword s.idx) s = .next t ∧ exec .wrDoorbell s = .next t
    ∧ (s.idx = 0 → exec .msgIocInit s = .next t)

/-- 40_doorbell, step 6 (the fixed count is the spec's decision D10; `replyFilled`: log 8): one reply halfword. -/
def Obligations.ReplyHalfwordStored : Prop :=
  ∀ (s : State) (v : Word) (a : Answers), s.st = .buRecv → s.idx < s.cfg.replyHalfwords →
    s.doorbellAns.take .doorbell = some (v, a) →
    let s' : State := { s with
      doorbellAns := a
      trace := s.trace ++ [.rd32 s.latch.iobase v]
      iocReply := s.iocReply.set s.idx (v.extractLsb' 0 16) }
    exec .rdDoorbell s = .next (
      if s.idx + 1 < s.cfg.replyHalfwords then { s' with idx := s.idx + 1 }
      else { s' with replyFilled := true, st := .buIclr2 })

/-- 40_doorbell R158: step 8, publish the reply buffer; BRINGUP is complete. -/
def Obligations.ReplyBufferPublished : Prop :=
  ∀ s : State, s.st = .buPublish →
    exec .wrRepq s = .next { s with trace := s.trace ++ [.wr32 (s.latch.iobase + 0x44) s.cfg.replyBufAddr], st := .idle }

/-! ### The frame, the post and the poll -/

/-- 41_scsi §4 (layout: the spec's decisions D12, D13; the two rows name one step: log 1): the frame is written at
`frame_addr`, every other byte of memory reads as before, and nothing else changes but the trace and `st`. -/
def Obligations.FrameWrittenToMemory : Prop :=
  ∀ s : State, s.st = .exBuild → s.latch.frameAddr.toNat + 56 ≤ 2 ^ 32 →
    ∃ m : Memory,
      (let t : State := { s with
        mem := m
        trace := s.trace ++ [.memwr s.latch.frameAddr (encodeFrame s.cfg s.latch)]
        st := .exPost }
       exec .memwrFrame s = .next t ∧ exec .msgScsiIo s = .next t)
      ∧ (∀ k, k < 56 → m.read? (s.latch.frameAddr.toNat + k) = some (byteAt (encodeFrame s.cfg s.latch) k))
      ∧ (∀ a, a < s.latch.frameAddr.toNat ∨ s.latch.frameAddr.toNat + 56 ≤ a → m.read? a = s.mem.read? a)

/-- 43_command R242: post the request. -/
def Obligations.RequestPosted : Prop :=
  ∀ s : State, s.st = .exPost →
    exec .wrReqq s = .next { s with trace := s.trace ++ [.wr32 (s.latch.iobase + 0x40) s.latch.frameAddr], st := .exStatus }

/-- 42_reply, resubmission (the spec's decisions D21, D23): the same address again, then the drain goes on. -/
def Obligations.RequestResubmitted : Prop :=
  ∀ s : State, s.st = .exResubmit →
    exec .wrReqq s = .next { s with trace := s.trace ++ [.wr32 (s.latch.iobase + 0x40) s.latch.frameAddr], st := .exDrain }

/-- 42_reply R215: read interrupt status; bit 3 alone decides. -/
def Obligations.StatusPolled : Prop :=
  ∀ (s : State) (v : Word) (a : Answers), s.st = .exStatus → s.istatusAns.take .istatus = some (v, a) →
    exec .rdIstatus s = .next { s with
      istatusAns := a
      trace := s.trace ++ [.rd32 (s.latch.iobase + 0x30) v]
      st := if v.getLsbD 3 then .exDrain else .exBackoff }

/-- 42_reply, backoff (its place and its missing length are the spec's decision D24). -/
def Obligations.BackoffRecorded : Prop :=
  ∀ s : State, s.st = .exBackoff → exec .delay s = .next { s with trace := s.trace ++ [.delay], st := .exStatus }

/-- 42_reply, read and classify one token, and the one-retry rule (the spec's decisions D19, D21, D22). -/
def Obligations.TokenReadAndHandled : Prop :=
  ∀ (s : State) (v : Word) (a : Answers), s.st = .exDrain → s.repqAns.take .repq = some (v, a) →
    let s' : State := { s with repqAns := a, trace := s.trace ++ [.rd32 (s.latch.iobase + 0x44) v] }
    exec .rdRepq s = .next (
      if v = 0xAAAA5555 then { s' with result := some .success, st := .exDone }
      else if v = 0 ∨ v <<< 1 = s.cfg.replyBufAddr then
        (if s.retried then { s' with result := some .badTrack, st := .exDone }
         else { s' with retried := true, st := .exResubmit })
      else if v = 0xFFFFFFFF then { s' with st := .exStatus }
      else s')

/-- 42_reply, what a token of each class does once read (the spec's decisions D19, D21, D22). -/
def Obligations.TokenClassEffects : Prop :=
  ∀ (s : State) (hi : Bool) (v : Word), s.st = .exDrain →
    let spurious : State := if s.retried then { s with result := some .badTrack, st := .exDone }
      else { s with retried := true, st := .exResubmit }
    exec .tokCompletion s = .next { s with result := some .success, st := .exDone }
    ∧ exec .tokSpuriousZero s = .next spurious
    ∧ exec (.tokSpuriousAlias hi) s = .next spurious
    ∧ exec .tokDrained s = .next { s with st := .exStatus }
    ∧ exec (.tokOther v) s = .next s

/-- 60_exceptions, stuck reads (the spec's decisions D8, D25; the form is log 5): an unanswered read changes nothing. -/
def Obligations.UnansweredReadWaits : Prop :=
  ∀ s : State,
    (s.st = .buRecv → s.idx < s.cfg.replyHalfwords → s.doorbellAns.take .doorbell = none → exec .rdDoorbell s = .next s)
    ∧ (s.st = .exStatus → s.istatusAns.take .istatus = none → exec .rdIstatus s = .next s)
    ∧ (s.st = .exDrain → s.repqAns.take .repq = none → exec .rdRepq s = .next s)

/-! ### Faults, reset and the other agents -/

/-- 60_exceptions, model faults (the spec's decision D17; the outcome of a step in FAULT is log 11): the engine's step in
FAULT stops, and no step but a reset leaves FAULT or changes its reason or makes a bus operation. -/
def Obligations.OnlyResetLeavesFault : Prop :=
  ∀ s : State, s.st = .fault →
    (s.turns = [] → step s = .fault (.stopped s.fault))
    ∧ (∀ t, step s = .next t → s.turns.head? ≠ some .platformResets →
        t.st = .fault ∧ t.fault = s.fault ∧ t.trace = s.trace)

/-- 70_reset §1 (the spec's decision D30): engine reset, in any state. That the host port keeps its pending operations and what
was driven on it is the model's choice (log 15), as are the flag `replyFilled` (log 8) and the turns (log 14); the answers
are the model's form of the controller (log 3). -/
def Obligations.EngineResetFromAnyState : Prop :=
  ∀ (s : State) (rest : List Turn), s.turns = .platformResets :: rest →
    ∃ t, step s = .next t
      ∧ t.st = .idle ∧ t.result = none ∧ t.fault = none ∧ t.trace = [] ∧ t.replyFilled = false
      ∧ t.mem = s.mem ∧ t.port = s.port ∧ t.hostOut = s.hostOut ∧ t.cfg = s.cfg ∧ t.turns = rest
      ∧ t.doorbellAns = s.doorbellAns ∧ t.istatusAns = s.istatusAns ∧ t.repqAns = s.repqAns

/-- 10_state §4 (the spec's decision D30): the reset values R51 gives; observing the reply store then faults. -/
def Obligations.StateAfterReset : Prop :=
  State.reset.st = .idle ∧ State.reset.result = none ∧ State.reset.trace = [] ∧ State.reset.fault = none
  ∧ ∃ t, step { State.reset with turns := [.hostObserves] } = .next t
      ∧ t.st = .fault ∧ t.fault = some .unwrittenReplyStore

/-- 10_state R34 and §4 (the spec's decisions D17, D26; the flag is log 8): the host's observation of the reply store. -/
def Obligations.ReplyStoreObserved : Prop :=
  ∀ (s : State) (rest : List Turn), s.turns = .hostObserves :: rest →
    (s.replyFilled = true →
      step s = .next { s with turns := rest, hostOut := s.hostOut ++ [.observed s.iocReply] })
    ∧ (s.replyFilled = false → s.st ≠ .fault →
      step s = .next { s with turns := rest, st := .fault, fault := some .unwrittenReplyStore })

/-- 20_memory R85 (controller DMA as a turn: log 14): a DMA write changes one byte of memory and nothing of the engine. -/
def Obligations.ControllerWriteChangesOneByte : Prop :=
  ∀ (s : State) (addr : Word) (b : Byte) (rest : List Turn), s.turns = .controllerWrites addr b :: rest →
    ∃ m : Memory, step s = .next { s with turns := rest, mem := m }
      ∧ m.read? addr.toNat = some b ∧ ∀ a, a ≠ addr.toNat → m.read? a = s.mem.read? a

/-! ### Frames and whole-machine rules -/

/-- 10_state §1: which engine registers an instruction leaves alone. -/
def Obligations.RegisterFrame : Prop :=
  ∀ (i : Instr) (s t : State), exec i s = .next t →
    t.cfg = s.cfg
    ∧ (i.accepts = false → t.latch = s.latch ∧ t.fault = s.fault ∧ t.execMark = s.execMark)
    ∧ (i.movesIdx = false → t.idx = s.idx)
    ∧ (i.writesOutcome = false → t.retried = s.retried ∧ t.result = s.result)
    ∧ (i ≠ .rdDoorbell → t.iocReply = s.iocReply ∧ t.replyFilled = s.replyFilled)

/-- 10_state §3, 20_memory §1: which parts of memory, ports and streams an instruction leaves alone. Each answer stream is
consumed by its own read only, so tokens left in the reply queue stay for the next EXEC (70_reset §3). -/
def Obligations.MemoryAndPortFrame : Prop :=
  ∀ (i : Instr) (s t : State), exec i s = .next t →
    t.port = s.port ∧ t.turns = s.turns
    ∧ ((∀ r, i ≠ .ret r) → t.hostOut = s.hostOut)
    ∧ (i ≠ .rdDoorbell → t.doorbellAns = s.doorbellAns)
    ∧ (i ≠ .rdIstatus → t.istatusAns = s.istatusAns)
    ∧ (i ≠ .rdRepq → t.repqAns = s.repqAns)
    ∧ (i ≠ .memwrFrame → i ≠ .msgScsiIo → ∀ a, t.mem.read? a = s.mem.read? a)
    ∧ (i.accepts = true ∨ (tokClassOf i).isSome = true → t.trace = s.trace)

/-- 10_state §1 (the spec's decisions D3, D18): the engine never changes a latched input while an operation runs, nor ever
the instance's parameters. -/
def Obligations.LatchedInputsHold : Prop :=
  ∀ s t : State, step s = .next t →
    t.cfg = s.cfg ∧ (s.st ≠ .idle → s.turns.head? ≠ some .platformResets → t.latch = s.latch)

/-- 00_scope §5, 30_encoding §9, §10: a step of the engine performs at most one bus operation, and it is one of those the
rules give, with their words. -/
def Obligations.OneAllowedOperationPerStep : Prop :=
  ∀ s t : State, s.turns = [] → step s = .next t →
    t.trace = s.trace ∨ ∃ e : Event, e.allowed s ∧ t.trace = s.trace ++ [e]

/-- 10_state R42: the unused registers are never read or written. -/
def Obligations.UnusedRegistersUntouched : Prop :=
  ∀ (s t : State) (e : Event) (off v : Word), s.turns = [] → step s = .next t → t.trace = s.trace ++ [e] →
    off ∈ [(0x04 : Word), 0x08, 0x0C, 0x10, 0x14] →
    e ≠ .wr32 (s.latch.iobase + off) v ∧ e ≠ .rd32 (s.latch.iobase + off) v

/-- 20_memory §3, §5, 41_scsi R191: what a step of the engine does, but for memory itself, does not depend on memory: not on
sense data, reply frames or the data buffer. -/
def Obligations.EngineIgnoresMemory : Prop :=
  ∀ (s : State) (m : Memory), s.turns = [] → Outcome.forgetMem (step s) = Outcome.forgetMem (step (s.withMem m))

/-- 43_command §, result conditions (an inference of the spec): what a result says of the step that made it. -/
def Obligations.ResultHasItsCause : Prop :=
  ∀ s t : State, s.turns = [] → step s = .next t → s.st ≠ .exDone → t.st = .exDone →
    (t.result = some .success ∧ s.st = .exDrain ∧ ∃ a, s.repqAns.take .repq = some (0xAAAA5555, a))
    ∨ (t.result = some .notReady ∧ s.st = .exCheck ∧ s.latch.lun ≠ 0)
    ∨ (t.result = some .badTrack ∧ s.st = .exDrain ∧ s.retried = true
        ∧ ∃ v a, s.repqAns.take .repq = some (v, a) ∧ (v = 0 ∨ v <<< 1 = s.cfg.replyBufAddr))

/-- The invariant holds after reset, of every instance. -/
def Obligations.ResetMeetsInvariant : Prop :=
  Inv State.reset ∧ ∀ c : Config, Inv (State.resetOf c)

/-- Every step, whoever's turn it is, keeps the invariant (`Machine.Inv`): canonical memory, bounded indices, FAULT and its
reason, checks that hold, results and submission counts that fit. -/
def Obligations.StepKeepsInvariant : Prop :=
  ∀ s t : State, Inv s → step s = .next t → Inv t

/-- 42_reply §3 (an inference of the spec): from a state that meets the invariant, no run of any length makes a third
submission of one EXEC. -/
def Obligations.NoThirdSubmission : Prop :=
  ∀ (k : Nat) (s t : State), Inv s → run k s = .next t →
    (t.st = .exCheck ∨ t.st.pastChecks = true ∨ t.st = .exDone) → t.submissions ≤ 2

/-! ### Whole operations -/

/-- 40_doorbell, the complete bus trace of BRINGUP (an inference of the spec): `13 + N` operations, then `IDLE`, the reply
store filled with the low halves of the answers, memory and the EXEC state untouched. -/
def Obligations.BringupRunsToItsEnd : Prop :=
  ∀ (s : State) (r : HostReq) (rest : List HostReq) (vs more : List Word),
    s.turns = [] → s.st = .idle → s.port = r :: rest → r.op = 0 → r.inputs.iobase.toNat % 4 = 0 →
    s.doorbellAns.ready = vs ++ more → vs.length = s.cfg.replyHalfwords → s.iocReply.length = s.cfg.replyHalfwords →
    ∃ t, run (14 + s.cfg.replyHalfwords) s = .next t
      ∧ t.st = .idle ∧ t.port = rest
      ∧ t.trace = s.trace ++ bringupTrace s.cfg r.inputs.iobase vs
      ∧ t.iocReply = vs.map (fun v => v.extractLsb' 0 16) ∧ t.replyFilled = true
      ∧ t.doorbellAns.ready = more
      ∧ t.mem = s.mem ∧ t.hostOut = s.hostOut ∧ t.retried = s.retried ∧ t.result = s.result
      ∧ t.latch = { s.latch with iobase := r.inputs.iobase }

/-- 41_scsi §1, 70_reset §4: an EXEC with a LUN other than 0 returns NOT_READY and performs no bus operation. -/
def Obligations.RejectedLunTouchesNothing : Prop :=
  ∀ (s : State) (a : ExecInputs) (rest : List HostReq),
    s.turns = [] → s.st = .idle → s.port = execReq a :: rest → a.lun ≠ 0 →
    ∃ t, run 3 s = .next t ∧ t.st = .idle ∧ t.port = rest
      ∧ t.hostOut = s.hostOut ++ [.returned .notReady s.cfg.codeNotReady]
      ∧ t.trace = s.trace ∧ t.mem = s.mem ∧ t.fault = s.fault

/-- 70_reset §4, the fastest successful EXEC (an inference of the spec): four bus operations. -/
def Obligations.FastestSuccess : Prop :=
  ∀ (s : State) (a : ExecInputs) (rest : List HostReq) (v : Word) (is rs : List Word),
    s.turns = [] → s.st = .idle → s.port = execReq a :: rest → inputsOk a = true →
    s.istatusAns.ready = v :: is → v.getLsbD 3 = true → s.repqAns.ready = 0xAAAA5555 :: rs →
    ∃ t, run 7 s = .next t ∧ t.st = .idle ∧ t.port = rest
      ∧ t.hostOut = s.hostOut ++ [.returned .success s.cfg.codeSuccess]
      ∧ t.trace = s.trace ++ [.memwr a.frameAddr (encodeFrame s.cfg a), .wr32 (a.iobase + 0x40) a.frameAddr,
          .rd32 (a.iobase + 0x30) v, .rd32 (a.iobase + 0x44) 0xAAAA5555]
      ∧ t.retried = false ∧ t.submissions = 1 ∧ t.repqAns.ready = rs

/-- 42_reply §3, retry (an inference of the spec): a first spurious token makes one resubmission, and the next token, a
completion or a second spurious one, ends the poll without another. -/
def Obligations.OneResubmissionThenResult : Prop :=
  ∀ (s : State) (v w : Word) (rs : List Word),
    s.turns = [] → s.st = .exDrain → s.retried = false → s.repqAns.ready = v :: w :: rs →
    (v = 0 ∨ v <<< 1 = s.cfg.replyBufAddr) →
    (w = 0xAAAA5555 ∨ w = 0 ∨ w <<< 1 = s.cfg.replyBufAddr) →
    ∃ t, run 3 s = .next t ∧ t.st = .exDone ∧ t.retried = true
      ∧ t.result = some (if w = 0xAAAA5555 then .success else .badTrack)
      ∧ t.trace = s.trace ++ [.rd32 (s.latch.iobase + 0x44) v, .wr32 (s.latch.iobase + 0x40) s.latch.frameAddr,
          .rd32 (s.latch.iobase + 0x44) w]
      ∧ t.mem = s.mem ∧ t.repqAns.ready = rs

/-- 42_reply §2 (the class OTHER is the spec's decision D19): any number of unnamed tokens is read and discarded. -/
def Obligations.OtherTokensDiscarded : Prop :=
  ∀ (vs : List Word) (s : State) (rs : List Word),
    s.turns = [] → s.st = .exDrain → s.repqAns.ready = vs ++ rs →
    (∀ v ∈ vs, v ≠ 0xAAAA5555 ∧ v ≠ 0 ∧ v <<< 1 ≠ s.cfg.replyBufAddr ∧ v ≠ 0xFFFFFFFF) →
    run vs.length s = .next { s with
      repqAns := { s.repqAns with ready := rs }
      trace := s.trace ++ vs.map (fun v => .rd32 (s.latch.iobase + 0x44) v) }

/-- 42_reply §3, no timeout (the spec's decision D25): a controller whose status answers, those ready and those it then repeats
for ever, all have bit 3 clear keeps the engine in the poll loop for ever, performing one bus operation or delay a step. The
answer stream is the model's form of the controller (log 3). -/
def Obligations.PollNeverTimesOut : Prop :=
  ∀ (s : State) (v : Word) (rest : List Word) (k : Nat),
    s.turns = [] → s.st = .exStatus → s.istatusAns.tail = .cycle v rest →
    (∀ w ∈ s.istatusAns.ready ++ v :: rest, w.getLsbD 3 = false) →
    ∃ t, run k s = .next t ∧ (t.st = .exStatus ∨ t.st = .exBackoff) ∧ t.trace.length = s.trace.length + k
      ∧ t.hostOut = s.hostOut
end

