-- ==== Sys2Proof/Laws/Bytes.lean ====
section
/-! SUPPORT. Little-endian assembly and reading undo each other, and a read past a list's first part reads the rest. -/

namespace Sys2Proof.Machine

/-- A word's bytes read back to the word. -/
theorem word32_le32 (v : Word) (rest : List Byte) : word32 (le32 v ++ rest) 0 = v := by
  apply BitVec.eq_of_getLsbD_eq
  intro i hi
  interval_cases i <;> simp [word32, le32, byteAt]

/-- A halfword's bytes read back to the halfword. -/
theorem half16_le16 (v : Half) (rest : List Byte) : half16 (le16 v ++ rest) 0 = v := by
  apply BitVec.eq_of_getLsbD_eq
  intro i hi
  interval_cases i <;> simp [half16, le16, byteAt]

/-- A byte past the first part is a byte of the rest. -/
theorem byteAt_append_right (a b : List Byte) (k : Nat) : byteAt (a ++ b) (a.length + k) = byteAt b k := by
  simp [byteAt, List.getD_eq_getElem?_getD, List.getElem?_append_right]

/-- A byte in the first part. -/
theorem byteAt_append_left (a b : List Byte) (k : Nat) (h : k < a.length) : byteAt (a ++ b) k = byteAt a k := by
  simp [byteAt, List.getD_eq_getElem?_getD, List.getElem?_append_left h]

/-- A word past the first part is a word of the rest. -/
theorem word32_append_right (a b : List Byte) (k : Nat) : word32 (a ++ b) (a.length + k) = word32 b k := by
  simp only [word32, Nat.add_assoc, byteAt_append_right]

/-- A halfword past the first part is a halfword of the rest. -/
theorem half16_append_right (a b : List Byte) (k : Nat) : half16 (a ++ b) (a.length + k) = half16 b k := by
  simp only [half16, Nat.add_assoc, byteAt_append_right]

/-- A byte of a fixed-size vector laid out as a list. -/
theorem byteAt_toList (v : Vector Byte 16) (k : Fin 16) : byteAt v.toList k.val = v[k] := by
  simp [byteAt]

end Sys2Proof.Machine
end

