-- ==== Sys2Proof/Laws/Memory.lean ====
section
/-! SUPPORT. The laws of memory space: what a read after a write gives, and that every memory operation keeps the canonical
form. -/

namespace Sys2Proof.Machine

@[simp] theorem Memory.read?_nil (a : Nat) : Memory.read? [] a = none := rfl

theorem Memory.read?_cons (k : Nat) (x : Byte) (m : Memory) (a : Nat) :
    Memory.read? ((k, x) :: m) a = if k = a then some x else Memory.read? m a := rfl

/-- A read after a write to the same place gives the byte written. -/
theorem Memory.read?_write_same (m : Memory) (a : Nat) (b : Byte) : (Memory.write m a b).read? a = some b := by
  induction m with
  | nil => simp [Memory.write, Memory.read?]
  | cons p m ih =>
    obtain ⟨k, x⟩ := p
    simp only [Memory.write]
    split
    · simp [Memory.read?]
    · split
      · simp [Memory.read?]
      · have : ¬ k = a := fun h => by simp_all
        simp [Memory.read?, this, ih]

/-- A write leaves every other place alone. -/
theorem Memory.read?_write_ne (m : Memory) (a a' : Nat) (b : Byte) (h : a' ≠ a) :
    (Memory.write m a b).read? a' = m.read? a' := by
  induction m with
  | nil => simp [Memory.write, Memory.read?, Ne.symm h]
  | cons p m ih =>
    obtain ⟨k, x⟩ := p
    simp only [Memory.write]
    split
    · simp [Memory.read?, Ne.symm h]
    · split
      · next h2 => subst h2; simp [Memory.read?, Ne.symm h]
      · simp [Memory.read?, ih]

/-- Writing bytes leaves every address outside them alone. -/
theorem Memory.read?_writeBytes_outside (bs : List Byte) (m : Memory) (a a' : Nat) (h : a' < a ∨ a + bs.length ≤ a') :
    (Memory.writeBytes m a bs).read? a' = m.read? a' := by
  induction bs generalizing m a with
  | nil => rfl
  | cons b bs ih =>
    simp only [List.length_cons] at h
    rw [Memory.writeBytes, ih _ _ (by omega), Memory.read?_write_ne _ _ _ _ (by omega)]

/-- Each address of the bytes written reads as its byte. -/
theorem Memory.read?_writeBytes_inside (bs : List Byte) (m : Memory) (a k : Nat) (h : k < bs.length) :
    (Memory.writeBytes m a bs).read? (a + k) = some bs[k] := by
  induction bs generalizing m a k with
  | nil => simp at h
  | cons b bs ih =>
    rw [Memory.writeBytes]
    cases k with
    | zero =>
      rw [Memory.read?_writeBytes_outside _ _ _ _ (by omega)]
      simpa using Memory.read?_write_same m a b
    | succ k =>
      have hk : k < bs.length := by simpa using h
      rw [show a + (k + 1) = a + 1 + k by omega, ih (Memory.write m a b) (a + 1) k hk]
      rfl

@[simp] theorem Memory.wf_nil : Memory.wf [] = true := rfl

theorem Memory.wf_cons_cons (k k' : Nat) (x x' : Byte) (m : Memory) :
    Memory.wf ((k, x) :: (k', x') :: m) = true ↔ k < k' ∧ Memory.wf ((k', x') :: m) = true := by
  simp [Memory.wf]

/-- In canonical form the first address is below 2^32. -/
theorem Memory.wf_head_lt (m : Memory) (k : Nat) (x : Byte) (h : Memory.wf ((k, x) :: m) = true) : k < 2 ^ 32 := by
  induction m generalizing k x with
  | nil => simpa [Memory.wf] using h
  | cons p m ih =>
    obtain ⟨k', x'⟩ := p
    rw [Memory.wf_cons_cons] at h
    exact Nat.lt_trans h.1 (ih k' x' h.2)

/-- A write behind a first entry keeps the canonical form. -/
theorem Memory.write_wf_behind (m : Memory) (k : Nat) (x : Byte) (a : Nat) (b : Byte)
    (h : Memory.wf ((k, x) :: m) = true) (hk : k < a) (ha : a < 2 ^ 32) :
    Memory.wf ((k, x) :: Memory.write m a b) = true := by
  induction m generalizing k x with
  | nil =>
    rw [Memory.write, Memory.wf_cons_cons]
    exact ⟨hk, by simpa [Memory.wf] using ha⟩
  | cons p m ih =>
    obtain ⟨k', x'⟩ := p
    obtain ⟨h1, h2⟩ := (Memory.wf_cons_cons _ _ _ _ _).1 h
    simp only [Memory.write]
    split
    · next h3 => exact (Memory.wf_cons_cons _ _ _ _ _).2 ⟨hk, (Memory.wf_cons_cons _ _ _ _ _).2 ⟨h3, h2⟩⟩
    · split
      · next h4 =>
        subst h4
        cases m with
        | nil => exact (Memory.wf_cons_cons _ _ _ _ _).2 ⟨h1, by simpa [Memory.wf] using ha⟩
        | cons q m =>
          obtain ⟨k'', x''⟩ := q
          obtain ⟨h5, h6⟩ := (Memory.wf_cons_cons _ _ _ _ _).1 h2
          exact (Memory.wf_cons_cons _ _ _ _ _).2 ⟨h1, (Memory.wf_cons_cons _ _ _ _ _).2 ⟨h5, h6⟩⟩
      · exact (Memory.wf_cons_cons _ _ _ _ _).2 ⟨h1, ih k' x' h2 (by omega)⟩

/-- A write keeps the canonical form. -/
theorem Memory.write_wf (m : Memory) (a : Nat) (b : Byte) (h : m.wf = true) (ha : a < 2 ^ 32) :
    (Memory.write m a b).wf = true := by
  cases m with
  | nil => simpa [Memory.write, Memory.wf] using ha
  | cons p m =>
    obtain ⟨k, x⟩ := p
    simp only [Memory.write]
    split
    · next h1 => exact (Memory.wf_cons_cons _ _ _ _ _).2 ⟨h1, h⟩
    · split
      · next h2 =>
        subst h2
        cases m with
        | nil => simpa [Memory.wf] using ha
        | cons q m =>
          obtain ⟨k', x'⟩ := q
          exact (Memory.wf_cons_cons _ _ _ _ _).2 ((Memory.wf_cons_cons _ _ _ _ _).1 h)
      · exact Memory.write_wf_behind m k x a b h (by omega) ha

/-- Writing bytes below 2^32 keeps the canonical form. -/
theorem Memory.writeBytes_wf (bs : List Byte) (m : Memory) (a : Nat) (h : m.wf = true) (ha : a + bs.length ≤ 2 ^ 32) :
    (Memory.writeBytes m a bs).wf = true := by
  induction bs generalizing m a with
  | nil => exact h
  | cons b bs ih =>
    simp only [List.length_cons] at ha
    exact ih _ _ (Memory.write_wf m a b h (by omega)) (by omega)

/-- The memory after reset is canonical. -/
theorem Memory.reset_wf : State.reset.mem.wf = true := rfl

end Sys2Proof.Machine
end

