-- ==== Sys2Proof/Laws/State.lean ====
section
/-! SUPPORT. One lemma per field of State and named update, each true by rfl, so that no proof unfolds a record update. -/

namespace Sys2Proof.Machine

/-! ### State.goto -/

@[simp] theorem goto_cfg (s : State) (q : Seq) : (s.goto q).cfg = s.cfg := rfl
@[simp] theorem goto_st (s : State) (q : Seq) : (s.goto q).st = q := rfl
@[simp] theorem goto_latch (s : State) (q : Seq) : (s.goto q).latch = s.latch := rfl
@[simp] theorem goto_idx (s : State) (q : Seq) : (s.goto q).idx = s.idx := rfl
@[simp] theorem goto_retried (s : State) (q : Seq) : (s.goto q).retried = s.retried := rfl
@[simp] theorem goto_iocReply (s : State) (q : Seq) : (s.goto q).iocReply = s.iocReply := rfl
@[simp] theorem goto_replyFilled (s : State) (q : Seq) : (s.goto q).replyFilled = s.replyFilled := rfl
@[simp] theorem goto_result (s : State) (q : Seq) : (s.goto q).result = s.result := rfl
@[simp] theorem goto_trace (s : State) (q : Seq) : (s.goto q).trace = s.trace := rfl
@[simp] theorem goto_fault (s : State) (q : Seq) : (s.goto q).fault = s.fault := rfl
@[simp] theorem goto_execMark (s : State) (q : Seq) : (s.goto q).execMark = s.execMark := rfl
@[simp] theorem goto_mem (s : State) (q : Seq) : (s.goto q).mem = s.mem := rfl
@[simp] theorem goto_port (s : State) (q : Seq) : (s.goto q).port = s.port := rfl
@[simp] theorem goto_hostOut (s : State) (q : Seq) : (s.goto q).hostOut = s.hostOut := rfl
@[simp] theorem goto_doorbellAns (s : State) (q : Seq) : (s.goto q).doorbellAns = s.doorbellAns := rfl
@[simp] theorem goto_istatusAns (s : State) (q : Seq) : (s.goto q).istatusAns = s.istatusAns := rfl
@[simp] theorem goto_repqAns (s : State) (q : Seq) : (s.goto q).repqAns = s.repqAns := rfl
@[simp] theorem goto_turns (s : State) (q : Seq) : (s.goto q).turns = s.turns := rfl

/-! ### State.emit -/

@[simp] theorem emit_cfg (s : State) (e : Event) : (s.emit e).cfg = s.cfg := rfl
@[simp] theorem emit_st (s : State) (e : Event) : (s.emit e).st = s.st := rfl
@[simp] theorem emit_latch (s : State) (e : Event) : (s.emit e).latch = s.latch := rfl
@[simp] theorem emit_idx (s : State) (e : Event) : (s.emit e).idx = s.idx := rfl
@[simp] theorem emit_retried (s : State) (e : Event) : (s.emit e).retried = s.retried := rfl
@[simp] theorem emit_iocReply (s : State) (e : Event) : (s.emit e).iocReply = s.iocReply := rfl
@[simp] theorem emit_replyFilled (s : State) (e : Event) : (s.emit e).replyFilled = s.replyFilled := rfl
@[simp] theorem emit_result (s : State) (e : Event) : (s.emit e).result = s.result := rfl
@[simp] theorem emit_trace (s : State) (e : Event) : (s.emit e).trace = s.trace ++ [e] := rfl
@[simp] theorem emit_fault (s : State) (e : Event) : (s.emit e).fault = s.fault := rfl
@[simp] theorem emit_execMark (s : State) (e : Event) : (s.emit e).execMark = s.execMark := rfl
@[simp] theorem emit_mem (s : State) (e : Event) : (s.emit e).mem = s.mem := rfl
@[simp] theorem emit_port (s : State) (e : Event) : (s.emit e).port = s.port := rfl
@[simp] theorem emit_hostOut (s : State) (e : Event) : (s.emit e).hostOut = s.hostOut := rfl
@[simp] theorem emit_doorbellAns (s : State) (e : Event) : (s.emit e).doorbellAns = s.doorbellAns := rfl
@[simp] theorem emit_istatusAns (s : State) (e : Event) : (s.emit e).istatusAns = s.istatusAns := rfl
@[simp] theorem emit_repqAns (s : State) (e : Event) : (s.emit e).repqAns = s.repqAns := rfl
@[simp] theorem emit_turns (s : State) (e : Event) : (s.emit e).turns = s.turns := rfl

/-! ### State.setIdx -/

@[simp] theorem setIdx_cfg (s : State) (k : Nat) : (s.setIdx k).cfg = s.cfg := rfl
@[simp] theorem setIdx_st (s : State) (k : Nat) : (s.setIdx k).st = s.st := rfl
@[simp] theorem setIdx_latch (s : State) (k : Nat) : (s.setIdx k).latch = s.latch := rfl
@[simp] theorem setIdx_idx (s : State) (k : Nat) : (s.setIdx k).idx = k := rfl
@[simp] theorem setIdx_retried (s : State) (k : Nat) : (s.setIdx k).retried = s.retried := rfl
@[simp] theorem setIdx_iocReply (s : State) (k : Nat) : (s.setIdx k).iocReply = s.iocReply := rfl
@[simp] theorem setIdx_replyFilled (s : State) (k : Nat) : (s.setIdx k).replyFilled = s.replyFilled := rfl
@[simp] theorem setIdx_result (s : State) (k : Nat) : (s.setIdx k).result = s.result := rfl
@[simp] theorem setIdx_trace (s : State) (k : Nat) : (s.setIdx k).trace = s.trace := rfl
@[simp] theorem setIdx_fault (s : State) (k : Nat) : (s.setIdx k).fault = s.fault := rfl
@[simp] theorem setIdx_execMark (s : State) (k : Nat) : (s.setIdx k).execMark = s.execMark := rfl
@[simp] theorem setIdx_mem (s : State) (k : Nat) : (s.setIdx k).mem = s.mem := rfl
@[simp] theorem setIdx_port (s : State) (k : Nat) : (s.setIdx k).port = s.port := rfl
@[simp] theorem setIdx_hostOut (s : State) (k : Nat) : (s.setIdx k).hostOut = s.hostOut := rfl
@[simp] theorem setIdx_doorbellAns (s : State) (k : Nat) : (s.setIdx k).doorbellAns = s.doorbellAns := rfl
@[simp] theorem setIdx_istatusAns (s : State) (k : Nat) : (s.setIdx k).istatusAns = s.istatusAns := rfl
@[simp] theorem setIdx_repqAns (s : State) (k : Nat) : (s.setIdx k).repqAns = s.repqAns := rfl
@[simp] theorem setIdx_turns (s : State) (k : Nat) : (s.setIdx k).turns = s.turns := rfl

/-! ### State.withMem -/

@[simp] theorem withMem_cfg (s : State) (m : Memory) : (s.withMem m).cfg = s.cfg := rfl
@[simp] theorem withMem_st (s : State) (m : Memory) : (s.withMem m).st = s.st := rfl
@[simp] theorem withMem_latch (s : State) (m : Memory) : (s.withMem m).latch = s.latch := rfl
@[simp] theorem withMem_idx (s : State) (m : Memory) : (s.withMem m).idx = s.idx := rfl
@[simp] theorem withMem_retried (s : State) (m : Memory) : (s.withMem m).retried = s.retried := rfl
@[simp] theorem withMem_iocReply (s : State) (m : Memory) : (s.withMem m).iocReply = s.iocReply := rfl
@[simp] theorem withMem_replyFilled (s : State) (m : Memory) : (s.withMem m).replyFilled = s.replyFilled := rfl
@[simp] theorem withMem_result (s : State) (m : Memory) : (s.withMem m).result = s.result := rfl
@[simp] theorem withMem_trace (s : State) (m : Memory) : (s.withMem m).trace = s.trace := rfl
@[simp] theorem withMem_fault (s : State) (m : Memory) : (s.withMem m).fault = s.fault := rfl
@[simp] theorem withMem_execMark (s : State) (m : Memory) : (s.withMem m).execMark = s.execMark := rfl
@[simp] theorem withMem_mem (s : State) (m : Memory) : (s.withMem m).mem = m := rfl
@[simp] theorem withMem_port (s : State) (m : Memory) : (s.withMem m).port = s.port := rfl
@[simp] theorem withMem_hostOut (s : State) (m : Memory) : (s.withMem m).hostOut = s.hostOut := rfl
@[simp] theorem withMem_doorbellAns (s : State) (m : Memory) : (s.withMem m).doorbellAns = s.doorbellAns := rfl
@[simp] theorem withMem_istatusAns (s : State) (m : Memory) : (s.withMem m).istatusAns = s.istatusAns := rfl
@[simp] theorem withMem_repqAns (s : State) (m : Memory) : (s.withMem m).repqAns = s.repqAns := rfl
@[simp] theorem withMem_turns (s : State) (m : Memory) : (s.withMem m).turns = s.turns := rfl

/-! ### memWrite -/

@[simp] theorem memWrite_cfg (a : Word) (b : List Byte) (s : State) : (memWrite a b s).cfg = s.cfg := rfl
@[simp] theorem memWrite_st (a : Word) (b : List Byte) (s : State) : (memWrite a b s).st = s.st := rfl
@[simp] theorem memWrite_latch (a : Word) (b : List Byte) (s : State) : (memWrite a b s).latch = s.latch := rfl
@[simp] theorem memWrite_idx (a : Word) (b : List Byte) (s : State) : (memWrite a b s).idx = s.idx := rfl
@[simp] theorem memWrite_retried (a : Word) (b : List Byte) (s : State) : (memWrite a b s).retried = s.retried := rfl
@[simp] theorem memWrite_iocReply (a : Word) (b : List Byte) (s : State) : (memWrite a b s).iocReply = s.iocReply := rfl
@[simp] theorem memWrite_replyFilled (a : Word) (b : List Byte) (s : State) : (memWrite a b s).replyFilled = s.replyFilled := rfl
@[simp] theorem memWrite_result (a : Word) (b : List Byte) (s : State) : (memWrite a b s).result = s.result := rfl
@[simp] theorem memWrite_trace (a : Word) (b : List Byte) (s : State) : (memWrite a b s).trace = s.trace ++ [.memwr a b] := rfl
@[simp] theorem memWrite_fault (a : Word) (b : List Byte) (s : State) : (memWrite a b s).fault = s.fault := rfl
@[simp] theorem memWrite_execMark (a : Word) (b : List Byte) (s : State) : (memWrite a b s).execMark = s.execMark := rfl
@[simp] theorem memWrite_mem (a : Word) (b : List Byte) (s : State) : (memWrite a b s).mem = Memory.writeBytes s.mem a.toNat b := rfl
@[simp] theorem memWrite_port (a : Word) (b : List Byte) (s : State) : (memWrite a b s).port = s.port := rfl
@[simp] theorem memWrite_hostOut (a : Word) (b : List Byte) (s : State) : (memWrite a b s).hostOut = s.hostOut := rfl
@[simp] theorem memWrite_doorbellAns (a : Word) (b : List Byte) (s : State) : (memWrite a b s).doorbellAns = s.doorbellAns := rfl
@[simp] theorem memWrite_istatusAns (a : Word) (b : List Byte) (s : State) : (memWrite a b s).istatusAns = s.istatusAns := rfl
@[simp] theorem memWrite_repqAns (a : Word) (b : List Byte) (s : State) : (memWrite a b s).repqAns = s.repqAns := rfl
@[simp] theorem memWrite_turns (a : Word) (b : List Byte) (s : State) : (memWrite a b s).turns = s.turns := rfl

/-! ### raise -/

@[simp] theorem raise_cfg (r : ModelFault) (s : State) : (raise r s).cfg = s.cfg := rfl
@[simp] theorem raise_st (r : ModelFault) (s : State) : (raise r s).st = .fault := rfl
@[simp] theorem raise_latch (r : ModelFault) (s : State) : (raise r s).latch = s.latch := rfl
@[simp] theorem raise_idx (r : ModelFault) (s : State) : (raise r s).idx = s.idx := rfl
@[simp] theorem raise_retried (r : ModelFault) (s : State) : (raise r s).retried = s.retried := rfl
@[simp] theorem raise_iocReply (r : ModelFault) (s : State) : (raise r s).iocReply = s.iocReply := rfl
@[simp] theorem raise_replyFilled (r : ModelFault) (s : State) : (raise r s).replyFilled = s.replyFilled := rfl
@[simp] theorem raise_result (r : ModelFault) (s : State) : (raise r s).result = s.result := rfl
@[simp] theorem raise_trace (r : ModelFault) (s : State) : (raise r s).trace = s.trace := rfl
@[simp] theorem raise_fault (r : ModelFault) (s : State) : (raise r s).fault = some r := rfl
@[simp] theorem raise_execMark (r : ModelFault) (s : State) : (raise r s).execMark = s.execMark := rfl
@[simp] theorem raise_mem (r : ModelFault) (s : State) : (raise r s).mem = s.mem := rfl
@[simp] theorem raise_port (r : ModelFault) (s : State) : (raise r s).port = s.port := rfl
@[simp] theorem raise_hostOut (r : ModelFault) (s : State) : (raise r s).hostOut = s.hostOut := rfl
@[simp] theorem raise_doorbellAns (r : ModelFault) (s : State) : (raise r s).doorbellAns = s.doorbellAns := rfl
@[simp] theorem raise_istatusAns (r : ModelFault) (s : State) : (raise r s).istatusAns = s.istatusAns := rfl
@[simp] theorem raise_repqAns (r : ModelFault) (s : State) : (raise r s).repqAns = s.repqAns := rfl
@[simp] theorem raise_turns (r : ModelFault) (s : State) : (raise r s).turns = s.turns := rfl

/-! ### finish -/

@[simp] theorem finish_cfg (r : Status) (s : State) : (finish r s).cfg = s.cfg := rfl
@[simp] theorem finish_st (r : Status) (s : State) : (finish r s).st = .exDone := rfl
@[simp] theorem finish_latch (r : Status) (s : State) : (finish r s).latch = s.latch := rfl
@[simp] theorem finish_idx (r : Status) (s : State) : (finish r s).idx = s.idx := rfl
@[simp] theorem finish_retried (r : Status) (s : State) : (finish r s).retried = s.retried := rfl
@[simp] theorem finish_iocReply (r : Status) (s : State) : (finish r s).iocReply = s.iocReply := rfl
@[simp] theorem finish_replyFilled (r : Status) (s : State) : (finish r s).replyFilled = s.replyFilled := rfl
@[simp] theorem finish_result (r : Status) (s : State) : (finish r s).result = some r := rfl
@[simp] theorem finish_trace (r : Status) (s : State) : (finish r s).trace = s.trace := rfl
@[simp] theorem finish_fault (r : Status) (s : State) : (finish r s).fault = s.fault := rfl
@[simp] theorem finish_execMark (r : Status) (s : State) : (finish r s).execMark = s.execMark := rfl
@[simp] theorem finish_mem (r : Status) (s : State) : (finish r s).mem = s.mem := rfl
@[simp] theorem finish_port (r : Status) (s : State) : (finish r s).port = s.port := rfl
@[simp] theorem finish_hostOut (r : Status) (s : State) : (finish r s).hostOut = s.hostOut := rfl
@[simp] theorem finish_doorbellAns (r : Status) (s : State) : (finish r s).doorbellAns = s.doorbellAns := rfl
@[simp] theorem finish_istatusAns (r : Status) (s : State) : (finish r s).istatusAns = s.istatusAns := rfl
@[simp] theorem finish_repqAns (r : Status) (s : State) : (finish r s).repqAns = s.repqAns := rfl
@[simp] theorem finish_turns (r : Status) (s : State) : (finish r s).turns = s.turns := rfl

/-! ### hostReturn -/

@[simp] theorem hostReturn_cfg (r : Status) (s : State) : (hostReturn r s).cfg = s.cfg := rfl
@[simp] theorem hostReturn_st (r : Status) (s : State) : (hostReturn r s).st = .idle := rfl
@[simp] theorem hostReturn_latch (r : Status) (s : State) : (hostReturn r s).latch = s.latch := rfl
@[simp] theorem hostReturn_idx (r : Status) (s : State) : (hostReturn r s).idx = s.idx := rfl
@[simp] theorem hostReturn_retried (r : Status) (s : State) : (hostReturn r s).retried = s.retried := rfl
@[simp] theorem hostReturn_iocReply (r : Status) (s : State) : (hostReturn r s).iocReply = s.iocReply := rfl
@[simp] theorem hostReturn_replyFilled (r : Status) (s : State) : (hostReturn r s).replyFilled = s.replyFilled := rfl
@[simp] theorem hostReturn_result (r : Status) (s : State) : (hostReturn r s).result = s.result := rfl
@[simp] theorem hostReturn_trace (r : Status) (s : State) : (hostReturn r s).trace = s.trace := rfl
@[simp] theorem hostReturn_fault (r : Status) (s : State) : (hostReturn r s).fault = s.fault := rfl
@[simp] theorem hostReturn_execMark (r : Status) (s : State) : (hostReturn r s).execMark = s.execMark := rfl
@[simp] theorem hostReturn_mem (r : Status) (s : State) : (hostReturn r s).mem = s.mem := rfl
@[simp] theorem hostReturn_port (r : Status) (s : State) : (hostReturn r s).port = s.port := rfl
@[simp] theorem hostReturn_hostOut (r : Status) (s : State) : (hostReturn r s).hostOut = s.hostOut ++ [.returned r (statusCode s.cfg r)] := rfl
@[simp] theorem hostReturn_doorbellAns (r : Status) (s : State) : (hostReturn r s).doorbellAns = s.doorbellAns := rfl
@[simp] theorem hostReturn_istatusAns (r : Status) (s : State) : (hostReturn r s).istatusAns = s.istatusAns := rfl
@[simp] theorem hostReturn_repqAns (r : Status) (s : State) : (hostReturn r s).repqAns = s.repqAns := rfl
@[simp] theorem hostReturn_turns (r : Status) (s : State) : (hostReturn r s).turns = s.turns := rfl

/-! ### latchBringup -/

@[simp] theorem latchBringup_cfg (a : Word) (s : State) : (latchBringup a s).cfg = s.cfg := rfl
@[simp] theorem latchBringup_st (a : Word) (s : State) : (latchBringup a s).st = s.st := rfl
@[simp] theorem latchBringup_latch (a : Word) (s : State) : (latchBringup a s).latch = { s.latch with iobase := a } := rfl
@[simp] theorem latchBringup_idx (a : Word) (s : State) : (latchBringup a s).idx = s.idx := rfl
@[simp] theorem latchBringup_retried (a : Word) (s : State) : (latchBringup a s).retried = s.retried := rfl
@[simp] theorem latchBringup_iocReply (a : Word) (s : State) : (latchBringup a s).iocReply = s.iocReply := rfl
@[simp] theorem latchBringup_replyFilled (a : Word) (s : State) : (latchBringup a s).replyFilled = s.replyFilled := rfl
@[simp] theorem latchBringup_result (a : Word) (s : State) : (latchBringup a s).result = s.result := rfl
@[simp] theorem latchBringup_trace (a : Word) (s : State) : (latchBringup a s).trace = s.trace := rfl
@[simp] theorem latchBringup_fault (a : Word) (s : State) : (latchBringup a s).fault = s.fault := rfl
@[simp] theorem latchBringup_execMark (a : Word) (s : State) : (latchBringup a s).execMark = s.execMark := rfl
@[simp] theorem latchBringup_mem (a : Word) (s : State) : (latchBringup a s).mem = s.mem := rfl
@[simp] theorem latchBringup_port (a : Word) (s : State) : (latchBringup a s).port = s.port := rfl
@[simp] theorem latchBringup_hostOut (a : Word) (s : State) : (latchBringup a s).hostOut = s.hostOut := rfl
@[simp] theorem latchBringup_doorbellAns (a : Word) (s : State) : (latchBringup a s).doorbellAns = s.doorbellAns := rfl
@[simp] theorem latchBringup_istatusAns (a : Word) (s : State) : (latchBringup a s).istatusAns = s.istatusAns := rfl
@[simp] theorem latchBringup_repqAns (a : Word) (s : State) : (latchBringup a s).repqAns = s.repqAns := rfl
@[simp] theorem latchBringup_turns (a : Word) (s : State) : (latchBringup a s).turns = s.turns := rfl

/-! ### acceptExec -/

@[simp] theorem acceptExec_cfg (a : ExecInputs) (s : State) : (acceptExec a s).cfg = s.cfg := rfl
@[simp] theorem acceptExec_st (a : ExecInputs) (s : State) : (acceptExec a s).st = .exCheck := rfl
@[simp] theorem acceptExec_latch (a : ExecInputs) (s : State) : (acceptExec a s).latch = a := rfl
@[simp] theorem acceptExec_idx (a : ExecInputs) (s : State) : (acceptExec a s).idx = s.idx := rfl
@[simp] theorem acceptExec_retried (a : ExecInputs) (s : State) : (acceptExec a s).retried = false := rfl
@[simp] theorem acceptExec_iocReply (a : ExecInputs) (s : State) : (acceptExec a s).iocReply = s.iocReply := rfl
@[simp] theorem acceptExec_replyFilled (a : ExecInputs) (s : State) : (acceptExec a s).replyFilled = s.replyFilled := rfl
@[simp] theorem acceptExec_result (a : ExecInputs) (s : State) : (acceptExec a s).result = none := rfl
@[simp] theorem acceptExec_trace (a : ExecInputs) (s : State) : (acceptExec a s).trace = s.trace := rfl
@[simp] theorem acceptExec_fault (a : ExecInputs) (s : State) : (acceptExec a s).fault = s.fault := rfl
@[simp] theorem acceptExec_execMark (a : ExecInputs) (s : State) : (acceptExec a s).execMark = s.trace.length := rfl
@[simp] theorem acceptExec_mem (a : ExecInputs) (s : State) : (acceptExec a s).mem = s.mem := rfl
@[simp] theorem acceptExec_port (a : ExecInputs) (s : State) : (acceptExec a s).port = s.port := rfl
@[simp] theorem acceptExec_hostOut (a : ExecInputs) (s : State) : (acceptExec a s).hostOut = s.hostOut := rfl
@[simp] theorem acceptExec_doorbellAns (a : ExecInputs) (s : State) : (acceptExec a s).doorbellAns = s.doorbellAns := rfl
@[simp] theorem acceptExec_istatusAns (a : ExecInputs) (s : State) : (acceptExec a s).istatusAns = s.istatusAns := rfl
@[simp] theorem acceptExec_repqAns (a : ExecInputs) (s : State) : (acceptExec a s).repqAns = s.repqAns := rfl
@[simp] theorem acceptExec_turns (a : ExecInputs) (s : State) : (acceptExec a s).turns = s.turns := rfl

/-! ### engineReset -/

@[simp] theorem engineReset_cfg (s : State) : (engineReset s).cfg = s.cfg := rfl
@[simp] theorem engineReset_st (s : State) : (engineReset s).st = .idle := rfl
@[simp] theorem engineReset_latch (s : State) : (engineReset s).latch = ExecInputs.zero := rfl
@[simp] theorem engineReset_idx (s : State) : (engineReset s).idx = 0 := rfl
@[simp] theorem engineReset_retried (s : State) : (engineReset s).retried = false := rfl
@[simp] theorem engineReset_iocReply (s : State) : (engineReset s).iocReply = List.replicate s.cfg.replyHalfwords 0 := rfl
@[simp] theorem engineReset_replyFilled (s : State) : (engineReset s).replyFilled = false := rfl
@[simp] theorem engineReset_result (s : State) : (engineReset s).result = none := rfl
@[simp] theorem engineReset_trace (s : State) : (engineReset s).trace = [] := rfl
@[simp] theorem engineReset_fault (s : State) : (engineReset s).fault = none := rfl
@[simp] theorem engineReset_execMark (s : State) : (engineReset s).execMark = 0 := rfl
@[simp] theorem engineReset_mem (s : State) : (engineReset s).mem = s.mem := rfl
@[simp] theorem engineReset_port (s : State) : (engineReset s).port = s.port := rfl
@[simp] theorem engineReset_hostOut (s : State) : (engineReset s).hostOut = s.hostOut := rfl
@[simp] theorem engineReset_doorbellAns (s : State) : (engineReset s).doorbellAns = s.doorbellAns := rfl
@[simp] theorem engineReset_istatusAns (s : State) : (engineReset s).istatusAns = s.istatusAns := rfl
@[simp] theorem engineReset_repqAns (s : State) : (engineReset s).repqAns = s.repqAns := rfl
@[simp] theorem engineReset_turns (s : State) : (engineReset s).turns = s.turns := rfl

/-! ### regWrite: one entry of the trace -/

@[simp] theorem regWrite_cfg (off v : Word) (s : State) : (regWrite off v s).cfg = s.cfg := rfl
@[simp] theorem regWrite_st (off v : Word) (s : State) : (regWrite off v s).st = s.st := rfl
@[simp] theorem regWrite_latch (off v : Word) (s : State) : (regWrite off v s).latch = s.latch := rfl
@[simp] theorem regWrite_idx (off v : Word) (s : State) : (regWrite off v s).idx = s.idx := rfl
@[simp] theorem regWrite_retried (off v : Word) (s : State) : (regWrite off v s).retried = s.retried := rfl
@[simp] theorem regWrite_iocReply (off v : Word) (s : State) : (regWrite off v s).iocReply = s.iocReply := rfl
@[simp] theorem regWrite_replyFilled (off v : Word) (s : State) : (regWrite off v s).replyFilled = s.replyFilled := rfl
@[simp] theorem regWrite_result (off v : Word) (s : State) : (regWrite off v s).result = s.result := rfl
@[simp] theorem regWrite_trace (off v : Word) (s : State) : (regWrite off v s).trace = s.trace ++ [.wr32 (regAddr s off) v] := rfl
@[simp] theorem regWrite_fault (off v : Word) (s : State) : (regWrite off v s).fault = s.fault := rfl
@[simp] theorem regWrite_execMark (off v : Word) (s : State) : (regWrite off v s).execMark = s.execMark := rfl
@[simp] theorem regWrite_mem (off v : Word) (s : State) : (regWrite off v s).mem = s.mem := rfl
@[simp] theorem regWrite_port (off v : Word) (s : State) : (regWrite off v s).port = s.port := rfl
@[simp] theorem regWrite_hostOut (off v : Word) (s : State) : (regWrite off v s).hostOut = s.hostOut := rfl
@[simp] theorem regWrite_doorbellAns (off v : Word) (s : State) : (regWrite off v s).doorbellAns = s.doorbellAns := rfl
@[simp] theorem regWrite_istatusAns (off v : Word) (s : State) : (regWrite off v s).istatusAns = s.istatusAns := rfl
@[simp] theorem regWrite_repqAns (off v : Word) (s : State) : (regWrite off v s).repqAns = s.repqAns := rfl
@[simp] theorem regWrite_turns (off v : Word) (s : State) : (regWrite off v s).turns = s.turns := rfl

/-! ### setAnswers: one answer stream -/

@[simp] theorem setAnswers_cfg (s : State) (p : ReadPort) (a : Answers) : (s.setAnswers p a).cfg = s.cfg := by cases p <;> rfl
@[simp] theorem setAnswers_st (s : State) (p : ReadPort) (a : Answers) : (s.setAnswers p a).st = s.st := by cases p <;> rfl
@[simp] theorem setAnswers_latch (s : State) (p : ReadPort) (a : Answers) : (s.setAnswers p a).latch = s.latch := by cases p <;> rfl
@[simp] theorem setAnswers_idx (s : State) (p : ReadPort) (a : Answers) : (s.setAnswers p a).idx = s.idx := by cases p <;> rfl
@[simp] theorem setAnswers_retried (s : State) (p : ReadPort) (a : Answers) : (s.setAnswers p a).retried = s.retried := by cases p <;> rfl
@[simp] theorem setAnswers_iocReply (s : State) (p : ReadPort) (a : Answers) : (s.setAnswers p a).iocReply = s.iocReply := by cases p <;> rfl
@[simp] theorem setAnswers_replyFilled (s : State) (p : ReadPort) (a : Answers) : (s.setAnswers p a).replyFilled = s.replyFilled := by cases p <;> rfl
@[simp] theorem setAnswers_result (s : State) (p : ReadPort) (a : Answers) : (s.setAnswers p a).result = s.result := by cases p <;> rfl
@[simp] theorem setAnswers_trace (s : State) (p : ReadPort) (a : Answers) : (s.setAnswers p a).trace = s.trace := by cases p <;> rfl
@[simp] theorem setAnswers_fault (s : State) (p : ReadPort) (a : Answers) : (s.setAnswers p a).fault = s.fault := by cases p <;> rfl
@[simp] theorem setAnswers_execMark (s : State) (p : ReadPort) (a : Answers) : (s.setAnswers p a).execMark = s.execMark := by cases p <;> rfl
@[simp] theorem setAnswers_mem (s : State) (p : ReadPort) (a : Answers) : (s.setAnswers p a).mem = s.mem := by cases p <;> rfl
@[simp] theorem setAnswers_port (s : State) (p : ReadPort) (a : Answers) : (s.setAnswers p a).port = s.port := by cases p <;> rfl
@[simp] theorem setAnswers_hostOut (s : State) (p : ReadPort) (a : Answers) : (s.setAnswers p a).hostOut = s.hostOut := by cases p <;> rfl
@[simp] theorem setAnswers_turns (s : State) (p : ReadPort) (a : Answers) : (s.setAnswers p a).turns = s.turns := by cases p <;> rfl

@[simp] theorem answers_setAnswers_same (s : State) (p : ReadPort) (a : Answers) : (s.setAnswers p a).answers p = a := by
  cases p <;> rfl

theorem answers_setAnswers_ne (s : State) (p q : ReadPort) (a : Answers) (h : q ≠ p) :
    (s.setAnswers p a).answers q = s.answers q := by
  cases p <;> cases q <;> first | rfl | exact absurd rfl h

@[simp] theorem regAddr_goto (s : State) (q : Seq) (off : Word) : regAddr (s.goto q) off = regAddr s off := rfl
@[simp] theorem regAddr_emit (s : State) (e : Event) (off : Word) : regAddr (s.emit e) off = regAddr s off := rfl
@[simp] theorem regAddr_setAnswers (s : State) (p : ReadPort) (a : Answers) (off : Word) :
    regAddr (s.setAnswers p a) off = regAddr s off := by simp [regAddr]

end Sys2Proof.Machine
end

