-- ==== Sys2Proof/Laws/Ops.lean ====
section
/-! SUPPORT. For each shared operation, what it can do, said once: later proofs cite these and do not unfold. -/

namespace Sys2Proof.Machine

/-! ### Sequencing -/

theorem inSeq_of_eq (q : Seq) (s : State) (o : Outcome) (h : s.st = q) : inSeq q s o = o := by simp [inSeq, h]

theorem inSeq_of_ne (q : Seq) (s : State) (o : Outcome) (h : s.st ≠ q) : inSeq q s o = .refused .outOfSequence := by
  simp [inSeq, h]

/-- A step of one sequencing state answers a next state only in that state. -/
theorem inSeq_next (q : Seq) (s t : State) (o : Outcome) (h : inSeq q s o = .next t) : s.st = q ∧ o = .next t := by
  unfold inSeq at h
  split at h
  · next hq => exact ⟨hq, h⟩
  · cases h

/-! ### Register reads -/

theorem onRead_of_none (p : ReadPort) (s : State) (k : Word → State → State) (h : (s.answers p).take p = none) :
    onRead p s k = .next s := by simp [onRead, regRead, h]

theorem onRead_of_some (p : ReadPort) (s : State) (k : Word → State → State) (v : Word) (a : Answers)
    (h : (s.answers p).take p = some (v, a)) :
    onRead p s k = .next (k v ((s.setAnswers p a).emit (.rd32 (regAddr s (readOffset p)) v))) := by
  simp [onRead, regRead, h]

/-- A read waits, or takes one answer, records it and goes on. -/
theorem onRead_next (p : ReadPort) (s t : State) (k : Word → State → State) (h : onRead p s k = .next t) :
    t = s ∨ ∃ v a, (s.answers p).take p = some (v, a)
      ∧ t = k v ((s.setAnswers p a).emit (.rd32 (regAddr s (readOffset p)) v)) := by
  cases hq : (s.answers p).take p with
  | none => rw [onRead_of_none p s k hq] at h; cases h; exact .inl rfl
  | some r =>
    obtain ⟨v, a⟩ := r
    rw [onRead_of_some p s k v a hq] at h
    cases h
    exact .inr ⟨v, a, rfl, rfl⟩

/-- An answer that is ready is the next one. -/
theorem Answers.take_ready (p : ReadPort) (a : Answers) (v : Word) (rest : List Word) (h : a.ready = v :: rest) :
    a.take p = some (v, { a with ready := rest }) := by simp [Answers.take, h]

/-- Only a silent controller with nothing ready gives no answer. -/
theorem Answers.take_none (p : ReadPort) (a : Answers) (h : a.take p = none) : a.ready = [] ∧ a.tail = .silent := by
  unfold Answers.take at h
  split at h
  · cases h
  · next hr =>
    split at h
    · next ht => exact ⟨hr, ht⟩
    · cases h
    · cases h

/-! ### The doorbell, the frame and the tokens -/

@[simp] theorem regAddr_doorbell (s : State) : regAddr s offDoorbell = s.latch.iobase := by simp [regAddr, offDoorbell, regOffset]

@[simp] theorem le32_length (v : Word) : (le32 v).length = 4 := rfl

@[simp] theorem le16_length (v : Half) : (le16 v).length = 2 := rfl

/-- A frame is 56 bytes (30_encoding R121). -/
@[simp] theorem encodeFrame_length (c : Config) (a : ExecInputs) : (encodeFrame c a).length = 56 := by
  simp [encodeFrame, le32, lunArray]

/-- Sending a request word needs an index in bounds; it writes that word, and either advances or goes on. -/
theorem sendRequestWord_next (s t : State) (h : sendRequestWord s = .next t) :
    s.idx < iocInitReqWords ∧
      t = (if s.idx + 1 < iocInitReqWords
        then (regWrite offDoorbell (iocInitWord s.cfg s.idx) s).setIdx (s.idx + 1)
        else ((regWrite offDoorbell (iocInitWord s.cfg s.idx) s).setIdx 0).goto .buRecv) := by
  unfold sendRequestWord at h
  split at h
  · next hi =>
    refine ⟨hi, ?_⟩
    split at h <;> · next hc => cases h; simp only [hc, if_true, if_false]
  · cases h

/-- Building a frame needs it inside memory space; it writes the frame and goes on to the post. -/
theorem buildFrame_next (s t : State) (h : buildFrame s = .next t) :
    s.latch.frameAddr.toNat + 56 ≤ 2 ^ 32 ∧
      t = (memWrite s.latch.frameAddr (encodeFrame s.cfg s.latch) s).goto .exPost := by
  unfold buildFrame at h
  split at h
  · next ha => cases h; exact ⟨ha, rfl⟩
  · cases h

/-- A token writes `st`, and `result` or `retried`; nothing else. -/
theorem tokenEffect_cases (k : TokClass) (s : State) :
    tokenEffect k s = finish .success s ∨ tokenEffect k s = finish .badTrack s
      ∨ tokenEffect k s = { s with retried := true, st := .exResubmit }
      ∨ tokenEffect k s = s.goto .exStatus ∨ tokenEffect k s = s.goto .exDrain := by
  cases k with
  | completion => exact .inl rfl
  | spurious =>
    by_cases h : s.retried = true
    · exact .inr (.inl (by simp only [tokenEffect, h, if_true]))
    · exact .inr (.inr (.inl (by simp only [tokenEffect, h]; rfl)))
  | drained => exact .inr (.inr (.inr (.inl rfl)))
  | other => exact .inr (.inr (.inr (.inr rfl)))

/-- The checks: a result, one of three model faults, or the frame is built next. -/
theorem exCheck_cases (s : State) :
    exCheck s = finish .notReady s ∨ (∃ r, exCheck s = raise r s) ∨ exCheck s = s.goto .exBuild := by
  unfold exCheck
  split
  · exact .inl rfl
  · split
    · exact .inr (.inl ⟨_, rfl⟩)
    · split
      · exact .inr (.inl ⟨_, rfl⟩)
      · split
        · exact .inr (.inl ⟨_, rfl⟩)
        · exact .inr (.inr rfl)

/-! ### Submissions (10_state R37) -/

/-- A step that adds one entry adds a submission exactly when the entry is a post. -/
theorem submissions_of_entry (s t : State) (e : Event) (hm : s.execMark ≤ s.trace.length)
    (h1 : t.trace = s.trace ++ [e]) (h2 : t.execMark = s.execMark) (h3 : t.latch = s.latch) :
    t.submissions = s.submissions + if e.isPost (regAddr s offReqq) then 1 else 0 := by
  have h4 : regAddr t offReqq = regAddr s offReqq := by rw [regAddr, regAddr, h3]
  rw [State.submissions, State.submissions, h1, h2, h4, List.drop_append_of_le_length hm, List.filter_append]
  by_cases hp : e.isPost (regAddr s offReqq) = true <;> simp [hp]

/-- A step that adds no entry adds no submission. -/
theorem submissions_of_same (s t : State) (h1 : t.trace = s.trace) (h2 : t.execMark = s.execMark)
    (h3 : t.latch = s.latch) : t.submissions = s.submissions := by
  rw [State.submissions, State.submissions, h1, h2, regAddr, regAddr, h3]

/-! ### Turns -/

theorem step_of_no_turns (s : State) (h : s.turns = []) : step s = engineStep s := by simp [step, machineStep, h]

theorem step_of_turn (s : State) (t : Turn) (rest : List Turn) (h : s.turns = t :: rest) :
    step s = turnStep t { s with turns := rest } := by simp [step, machineStep, h]

end Sys2Proof.Machine
end

