-- ==== Sys2Proof/Laws/PerInstr.lean ====
section
/-! SUPPORT. Statements about every instruction as data, one lemma per constructor: an instruction's bytes have the length
its place fixes (30_encoding R146). -/

namespace Sys2Proof.Laws.EncodedLength

open Sys2Proof.Machine

/-- The encoding of an instruction has the length of its place. -/
def Statement (i : Instr) : Prop := ∀ c : Config, (encode c i).length = i.place.bytes

theorem hostReqBytes_length (r : HostReq) : (hostReqBytes r).length = 40 := by simp [hostReqBytes]

theorem bringup (iobase : Word) : Statement (.bringup iobase) := fun _ => hostReqBytes_length _
theorem exec (inputs : ExecInputs) : Statement (.exec inputs) := fun _ => hostReqBytes_length _
theorem dbReset : Statement .dbReset := fun _ => rfl
theorem dbHandshake : Statement .dbHandshake := fun _ => rfl
theorem dbMsgword (i : Nat) : Statement (.dbMsgword i) := fun _ => rfl
theorem msgScsiIo : Statement .msgScsiIo := fun _ => rfl
theorem msgIocInit : Statement .msgIocInit := fun _ => rfl
theorem wrDoorbell : Statement .wrDoorbell := fun _ => rfl
theorem rdDoorbell : Statement .rdDoorbell := fun _ => rfl
theorem wrIstatus : Statement .wrIstatus := fun _ => rfl
theorem rdIstatus : Statement .rdIstatus := fun _ => rfl
theorem wrImask : Statement .wrImask := fun _ => rfl
theorem wrReqq : Statement .wrReqq := fun _ => rfl
theorem wrRepq : Statement .wrRepq := fun _ => rfl
theorem rdRepq : Statement .rdRepq := fun _ => rfl
theorem memwrFrame : Statement .memwrFrame := fun _ => rfl
theorem delay : Statement .delay := fun _ => rfl
theorem ret (r : Status) : Statement (.ret r) := fun _ => rfl
theorem tokCompletion : Statement .tokCompletion := fun _ => rfl
theorem tokSpuriousZero : Statement .tokSpuriousZero := fun _ => rfl
theorem tokSpuriousAlias (bit31 : Bool) : Statement (.tokSpuriousAlias bit31) := fun _ => rfl
theorem tokDrained : Statement .tokDrained := fun _ => rfl
theorem tokOther (v : Word) : Statement (.tokOther v) := fun _ => rfl

end Sys2Proof.Laws.EncodedLength
end

