-- ==== Sys2Proof/Tests/Slice0.lean ====
section
/-! SUPPORT. Tests: expected results are those of spec/95_test_vectors.md and of the encodings of spec/30_encoding.md, under
the sample instance of 95 §0. -/

namespace Sys2Proof.Tests

open Sys2Proof.Machine

/-! ### Helpers -/

abbrev smp : Config := Config.sample

/-- The sample machine after reset. -/
def base : State := State.resetOf smp

/-- PROG-2's command: READ(10), 4 blocks of 512 bytes. -/
def read10 : ExecInputs where
  iobase := 0x1000
  target := 0
  lun := 0
  cdb := #v[0x28, 0, 0, 0, 0, 0x10, 0, 0, 4, 0, 0, 0, 0, 0, 0, 0]
  blocksize := 512
  count := 4
  dataAddr := 0x00010000
  frameAddr := 0x00008000
  senseAddr := 0x00008100

/-- The sample machine in a sequencing state of an EXEC of `read10`. -/
def inState (q : Seq) : State := { base with st := q, latch := read10 }

/-- Scripted answers, then silence. -/
def script (vs : List Word) : Answers := { ready := vs, tail := .silent, drawn := 0 }

def got : Outcome → Option State
  | .next s => some s
  | _ => none

def stopped : Outcome → Option Fault
  | .fault r => some r
  | _ => none

def declined : Outcome → Option Refusal
  | .refused r => some r
  | _ => none

/-- The sequencing state after a step. -/
def seqAfter (o : Outcome) : Option Seq := (got o).map (·.st)

/-- The trace after a step. -/
def traceAfter (o : Outcome) : Option (List Event) := (got o).map (·.trace)

/-! ### Well-formedness: an ill-formed term for each check -/

theorem test_wf_word_index : (Instr.dbMsgword 7).wf smp = false := by decide
theorem test_wf_other_completion : (Instr.tokOther 0xAAAA5555).wf smp = false := by decide
theorem test_wf_other_zero : (Instr.tokOther 0).wf smp = false := by decide
theorem test_wf_other_alias : (Instr.tokOther 0x80003F80).wf smp = false := by decide
theorem test_wf_other_drained : (Instr.tokOther 0xFFFFFFFF).wf smp = false := by decide
theorem test_wf_good : (Instr.tokOther 0x12345678).wf smp = true ∧ (Instr.dbMsgword 6).wf smp = true := by decide

/-! ### Decoding: words written out from the spec -/

theorem test_dec_bringup : decodeTableWord 8 0 = some (.bringup 0) := by decide
theorem test_dec_exec : decodeTableWord 8 1 = some (.exec ExecInputs.zero) := by decide
theorem test_dec_db_reset : decodeTableWord 32 0x40000000 = some .dbReset := by decide
theorem test_dec_db_handshake : decodeTableWord 32 0x42070000 = some .dbHandshake := by decide
theorem test_dec_msgword : decoded (decode smp (.iocInitWord 1) [0x00, 0x07, 0x01, 0x00]) = some (.dbMsgword 1) := by decide
theorem test_dec_msg_scsi_io : decoded (decode smp .msgFunction [0x00]) = some .msgScsiIo := by decide
theorem test_dec_msg_ioc_init : decodeTableWord 8 2 = some .msgIocInit := by decide
theorem test_dec_wr_doorbell : decodeTableWord 16 0x100 = some .wrDoorbell := by decide
theorem test_dec_rd_doorbell : decodeTableWord 16 0x000 = some .rdDoorbell := by decide
theorem test_dec_wr_istatus : decodeTableWord 16 0x130 = some .wrIstatus := by decide
theorem test_dec_rd_istatus : decodeTableWord 16 0x030 = some .rdIstatus := by decide
theorem test_dec_wr_imask : decodeTableWord 16 0x134 = some .wrImask := by decide
theorem test_dec_wr_reqq : decodeTableWord 16 0x140 = some .wrReqq := by decide
theorem test_dec_wr_repq : decodeTableWord 16 0x144 = some .wrRepq := by decide
theorem test_dec_rd_repq : decodeTableWord 16 0x044 = some .rdRepq := by decide
theorem test_dec_memwr : decoded (decode smp .memWrite []) = some .memwrFrame := by decide
theorem test_dec_delay : decoded (decode smp .internal []) = some .delay := by decide
theorem test_dec_ret : decoded (decode smp .hostReply [0x0C]) = some (.ret .badTrack) := by decide
theorem test_dec_tok_completion : decodeTableWord 32 0xAAAA5555 = some .tokCompletion := by decide
theorem test_dec_tok_zero : decodeTableWord 32 0 = some .tokSpuriousZero := by decide
theorem test_dec_tok_drained : decodeTableWord 32 0xFFFFFFFF = some .tokDrained := by decide
theorem test_dec_tok_alias : decodeToken smp 0x80003F80 = .tokSpuriousAlias true
    ∧ decodeToken smp 0x00003F80 = .tokSpuriousAlias false := by decide
theorem test_dec_tok_other : decodeToken smp 0x7F00 = .tokOther 0x7F00 := by decide

/-- R143: reads of IMASK and REQQ, and the unused register 0x04, are no accesses. -/
theorem test_dec_refused : decodeTableWord 16 0x034 = none ∧ decodeTableWord 16 0x040 = none
    ∧ decodeTableWord 16 0x104 = none ∧ decodeTableWord 8 5 = none := by decide

/-! ### Instances: a parameter record refused for constraints of 00_scope R8 (V of 60_exceptions R277) -/

theorem test_instance_refused : Config.ofParams { Params.sample with replyBufAddr := 0x7F04 } = none
    ∧ Config.ofParams { Params.sample with replyBufAddr := 0 } = none
    ∧ Config.ofParams { Params.sample with replyHalfwords := 0 } = none
    ∧ Config.ofParams { Params.sample with writeOps := [0x2A, 0x28] } = none
    ∧ Config.ofParams { Params.sample with ctrlDataOut := 0x02000000 } = none
    ∧ Config.ofParams { Params.sample with codeBadTrack := 0 } = none := by decide

/-- 95 §0's regions keep the host's duty of 70_reset R313. -/
theorem test_regions_apart : regionsApart smp read10 = true
    ∧ regionsApart smp { read10 with senseAddr := 0x8030 } = false := by decide

/-- The model's choices at the edges of `rangesApart` (log 21, log 22): no wrap past 2^32; an empty range inside another. -/
theorem test_ranges_edges : rangesApart 0xFFFFFFF0 32 0 32 = true ∧ rangesApart 0x8010 0 0x8000 56 = false
    ∧ rangesApart 0x8038 0 0x8000 56 = true := by decide

/-! ### Formats -/

/-- V-DB-1 to V-DB-4. -/
theorem test_doorbell_words : doorbellCmd 0x40 0 = 0x40000000 ∧ doorbellCmd 0x42 7 = 0x42070000
    ∧ doorbellCmd 0x142 0x107 = 0x42070000 ∧ doorbellCmd 0x42 0 = 0x42000000 := by decide

/-- V-INIT-1. -/
theorem test_ioc_init_words : (List.range 7).map (iocInitWord smp) = [0x02000002, 0x00010700, 0, 0x20, 0, 0, 0] := by
  decide

/-- V-CLS-1 to V-CLS-7, V-CLS-11. -/
theorem test_classify : classify smp 0xAAAA5555 = .completion ∧ classify smp 0 = .spurious
    ∧ classify smp 0x3F80 = .spurious ∧ classify smp 0x80003F80 = .spurious ∧ classify smp 0xFFFFFFFF = .drained
    ∧ classify smp 0x7F00 = .other ∧ classify smp 0x80000000 = .other ∧ classify smp 0x7FFFFFFF = .other := by decide

/-- V-ENC-1. -/
theorem test_frame_read10 : encodeFrame smp read10 =
    [0x00, 0x00, 0x00, 0x00, 0x10, 0x20, 0x00, 0x00, 0x55, 0x55, 0xAA, 0xAA, 0x00, 0x00, 0x00, 0x00,
     0x00, 0x00, 0x00, 0x00, 0x00, 0x00, 0x00, 0x02, 0x28, 0x00, 0x00, 0x00, 0x00, 0x10, 0x00, 0x00,
     0x04, 0x00, 0x00, 0x00, 0x00, 0x00, 0x00, 0x00, 0x00, 0x08, 0x00, 0x00, 0x00, 0x81, 0x00, 0x00,
     0x00, 0x08, 0x00, 0xD1, 0x00, 0x00, 0x01, 0x00] := by decide

/-- V-DIR-2, V-DIR-3, V-DIR-6: the scatter-gather word of a write, a non-data command, a write of no blocks. -/
theorem test_sge_words :
    sgeFlagsLength smp { read10 with cdb := read10.cdb.set 0 0x2A, count := 1 } = 0xD5000200
    ∧ sgeFlagsLength smp { read10 with cdb := read10.cdb.set 0 0x2A, blocksize := 0 } = 0xD1000000
    ∧ sgeFlagsLength smp { read10 with cdb := read10.cdb.set 0 0x2A, count := 0 } = 0xD5000000 := by decide

/-- The fields of V-ENC-1 read back. -/
theorem test_frame_parses : (parseFrame (encodeFrame smp read10)).map (fun f => (f.control, f.dataLength, f.dataAddr))
    = some (0x02000000, 0x800, 0x10000) := by decide

/-! ### One step each -/

/-- Acceptance of BRINGUP(0x1000), and V-CHK-14. -/
theorem test_step_bringup : seqAfter (step { base with port := [bringupReq 0x1000] }) = some .buReset
    ∧ (got (step { base with port := [bringupReq 0x1001] })).map (fun t => (t.st, t.fault, t.trace))
      = some (.fault, some .badIobase, []) := by decide

/-- Acceptance of EXEC clears the retry flag and the result. -/
theorem test_step_exec : (got (step { base with port := [execReq read10], retried := true, result := some .success })).map
    (fun t => (t.st, t.retried, t.result, t.port)) = some (.exCheck, false, none, []) := by decide

/-- R277: a busy engine refuses an operation, which stays on the port. -/
theorem test_busy : declined (exec (.exec read10) (inState .exStatus)) = some .engineBusy
    ∧ (got (step { inState .exBackoff with port := [execReq read10] })).map (·.port) = some [execReq read10] := by decide

/-- R151 to R154, PROG-1's first four operations. -/
theorem test_bringup_writes : traceAfter (exec .dbReset (inState .buReset)) = some [.wr32 0x1000 0x40000000]
    ∧ traceAfter (exec .wrImask (inState .buImask)) = some [.wr32 0x1034 9]
    ∧ traceAfter (exec .wrIstatus (inState .buIclr1)) = some [.wr32 0x1030 0]
    ∧ traceAfter (exec .dbHandshake (inState .buHscmd)) = some [.wr32 0x1000 0x42070000] := by decide

/-- R155: the last request word goes on to the reply. -/
theorem test_last_request_word : (got (exec (.dbMsgword 6) { inState .buSend with idx := 6 })).map
    (fun t => (t.st, t.idx)) = some (.buRecv, 0) := by decide

/-- V-RX-2: the upper half of a DOORBELL read is discarded. -/
theorem test_reply_halfword : (got (exec .rdDoorbell { inState .buRecv with doorbellAns := script [0xFFFF1234] })).map
    (fun t => (t.iocReply.head?, t.idx, t.st)) = some (some 0x1234, 1, .buRecv) := by decide

/-- R157, R158. -/
theorem test_bringup_end : seqAfter (exec .wrIstatus (inState .buIclr2)) = some .buPublish
    ∧ (got (exec .wrRepq (inState .buPublish))).map (fun t => (t.st, t.trace)) = some (.idle, [.wr32 0x1044 0x7F00]) := by
  decide

/-- V-CHK-3, V-CHK-4, V-CHK-7, V-CHK-8, V-CHK-10. -/
theorem test_checks :
    (exCheck { inState .exCheck with latch := { read10 with lun := 0x0100, iobase := 0x1002, frameAddr := 0x8004 } }).result
      = some .notReady
    ∧ (exCheck { inState .exCheck with latch := { read10 with iobase := 0x1002, frameAddr := 0x8004 } }).fault
      = some .badIobase
    ∧ (exCheck { inState .exCheck with latch := { read10 with frameAddr := 0xFFFFFFD0 } }).fault = some .badFrameAddr
    ∧ (exCheck { inState .exCheck with latch := { read10 with count := 32768 } }).fault = some .lengthOverflow
    ∧ (exCheck { inState .exCheck with latch := { read10 with count := 4097, blocksize := 4095 } }).st = .exBuild := by
  decide

/-- R190: byte 51 of the frame in memory, and nothing above it. -/
theorem test_frame_in_memory : (got (exec .memwrFrame (inState .exBuild))).map
    (fun t => (t.mem.read? 0x8033, t.mem.read? 0x8038, t.st)) = some (some 0xD1, none, .exPost) := by decide

/-- R242, R219: the two posts go on to different states. -/
theorem test_posts : seqAfter (exec .wrReqq (inState .exPost)) = some .exStatus
    ∧ seqAfter (exec .wrReqq (inState .exResubmit)) = some .exDrain := by decide

/-- V-POLL-1, V-POLL-8, V-POLL-9: bit 3 alone decides. -/
theorem test_status_read :
    seqAfter (exec .rdIstatus { inState .exStatus with istatusAns := script [8] }) = some .exDrain
    ∧ seqAfter (exec .rdIstatus { inState .exStatus with istatusAns := script [0xFFFFFFF7] }) = some .exBackoff
    ∧ seqAfter (exec .rdIstatus { inState .exStatus with istatusAns := script [] }) = some .exStatus := by decide

/-- R216. -/
theorem test_delay : (got (exec .delay (inState .exBackoff))).map (fun t => (t.st, t.trace)) = some (.exStatus, [.delay]) := by
  decide

/-- V-POLL-3, V-POLL-4, V-POLL-6, V-POLL-7: each class of token. -/
theorem test_token_read :
    (got (exec .rdRepq { inState .exDrain with repqAns := script [0xAAAA5555] })).map (·.result) = some (some .success)
    ∧ seqAfter (exec .rdRepq { inState .exDrain with repqAns := script [0x80003F80] }) = some .exResubmit
    ∧ (got (exec .rdRepq { inState .exDrain with repqAns := script [0], retried := true })).map (·.result)
      = some (some .badTrack)
    ∧ seqAfter (exec .rdRepq { inState .exDrain with repqAns := script [0xFFFFFFFF] }) = some .exStatus
    ∧ seqAfter (exec .rdRepq { inState .exDrain with repqAns := script [0x80000000] }) = some .exDrain := by decide

/-- R244, PROG-4's code. -/
theorem test_return : (got (exec (.ret .badTrack) { inState .exDone with result := some .badTrack })).map
    (fun t => (t.st, t.hostOut)) = some (.idle, [.returned .badTrack 0x0C]) := by decide

/-- R276: FAULT has no step; R300: reset leaves it. -/
theorem test_fault_and_reset :
    stopped (step { inState .fault with fault := some .badIobase }) = some (.stopped (some .badIobase))
    ∧ seqAfter (step { inState .fault with fault := some .badIobase, turns := [.platformResets] }) = some .idle := by decide

/-- R51: observing the reply store before a BRINGUP (PROG-5). -/
theorem test_observe_unwritten : (got (step { base with turns := [.hostObserves] })).map (fun t => (t.st, t.fault))
    = some (.fault, some .unwrittenReplyStore) := by decide

/-- A placed word is the next instruction: WR_REQQ from reset. -/
theorem test_fetch_word : (got (step (State.reset.withFetchWord 16 0x140))).map (fun t => (t.st, t.trace.length))
    = some (.exStatus, 1) := by decide

/-- A placed token is the next one read. -/
theorem test_fetch_token : (got (step (State.reset.withFetchWord 32 0xAAAA5555))).map (fun t => t.st) = some .exDone := by
  decide

/-! ### Witnesses: concrete states and operands that meet the hypotheses of each obligation together

`wit_<Obligation>`; one part per clause, at the edge of its range. A statement without hypotheses has none. -/

/-- The longest transfer the checks let pass, 4097 blocks of 4095 bytes. -/
def longest : ExecInputs := { read10 with count := 4097, blocksize := 4095 }

/-- A state in the drain with these tokens ready. -/
def draining (vs : List Word) : State := { inState .exDrain with repqAns := script vs }

/-- The sample machine with an operation presented. -/
def presented (r : HostReq) : State := { base with port := [r] }

/-- The sample machine when it is another agent's turn. -/
def onTurn (t : Turn) : State := { base with turns := [t] }

theorem wit_ScatterGatherWordFields : longest.count.toNat * longest.blocksize.toNat = 2 ^ 24 - 1
    ∧ read10.count.toNat * read10.blocksize.toNat < 2 ^ 24 := by decide
theorem wit_FrameReadsBack : read10.lun = 0 := by decide
theorem wit_DecodeOfEncode : (Instr.dbMsgword 0).wf smp = true ∧ (Instr.dbMsgword 6).wf smp = true
    ∧ (Instr.exec longest).wf smp = true ∧ (Instr.tokSpuriousAlias true).wf smp = true
    ∧ (Instr.tokOther 0xFFFFFFFE).wf smp = true := by decide
theorem wit_EightRegisterAccesses : (half16 [0x44, 0x00] 0, Instr.rdRepq) = (0x044, .rdRepq) := by decide
theorem wit_StepRunsNextInstruction :
    (nextInstr (inState .exBackoff) = some .delay ∧ (inState .exBackoff).turns = [])
    ∧ (nextInstr (presented (execReq read10)) = some (.exec read10) ∧ (presented (execReq read10)).turns = [])
    ∧ (nextInstr (onTurn .engine) = none ∧
      nextInstr { inState .exDone with result := some .success, turns := [.engine] } = some (.ret .success)) := by decide
theorem wit_SequencingStateNamesInstruction :
    (base.st = .idle ∧ base.port = [])
    ∧ ((presented (bringupReq 0x1000)).port = bringupReq 0x1000 :: [] ∧ (bringupReq 0x1000).op = 0)
    ∧ ((presented (execReq read10)).port = execReq read10 :: [] ∧ (execReq read10).op = 1)
    ∧ (∀ q ∈ [Seq.buReset, .buImask, .buIclr1, .buHscmd, .buSend, .buRecv, .buIclr2, .buPublish, .exCheck, .exBuild, .exPost,
        .exStatus, .exBackoff, .exDrain, .exResubmit, .fault], (inState q).st = q)
    ∧ ({ inState .exDone with result := some .badTrack } : State).result = some .badTrack := by decide
theorem wit_StepRunsPresentedOperation :
    parseHostReq (hostReqBytes (bringupReq 0x1000)) = .ok (bringupReq 0x1000)
    ∧ parseHostReq (hostReqBytes (execReq read10)) = .ok (execReq read10) := ⟨rfl, rfl⟩
theorem wit_StepRunsPresentedOperation_state : (presented (execReq read10)).turns = []
    ∧ (presented (execReq read10)).st = .idle ∧ (presented (execReq read10)).port = execReq read10 :: [] := by decide
theorem wit_StepRunsDecodedToken : (draining [0]).turns = [] ∧ (draining [0]).st = .exDrain
    ∧ (draining [0]).repqAns.take .repq = some (0, script []) := by decide
theorem wit_BringupAccepted : base.st = .idle ∧ (0x1000 : Word).toNat % 4 = 0 ∧ (0xFFFFFFFC : Word).toNat % 4 = 0
    ∧ (0xFFFFFFFD : Word).toNat % 4 ≠ 0 ∧ (3 : Word).toNat % 4 ≠ 0 := by decide
theorem wit_ExecAccepted : base.st = .idle := by decide
theorem wit_BusyEngineRefuses : (inState .exBackoff).st ≠ .idle ∧ (inState .fault).st ≠ .idle := by decide
theorem wit_PresentedOperationStaysPending :
    (inState .exBackoff).st ≠ .idle ∧ ∃ t, step { inState .exBackoff with port := [execReq read10] } = .next t :=
  ⟨by decide, _, rfl⟩
theorem wit_LunCheckIsFirst : ((inState .exCheck).turns = [] ∧ (inState .exCheck).st = .exCheck
    ∧ (inState .exCheck).latch.lun = 0) ∧ ({ read10 with lun := 0x0100 } : ExecInputs).lun ≠ 0 := by decide
theorem wit_ChecksInOrder : (inState .exCheck).turns = [] ∧ (inState .exCheck).st = .exCheck
    ∧ (inState .exCheck).latch.lun = 0 := by decide

/-- Each branch of `ChecksInOrder` is taken, at the edges of the ranges. -/
theorem wit_ChecksInOrder_branches : (0x1002 : Word).toNat % 4 ≠ 0
    ∧ ((0xFFFFFFC8 : Word).toNat % 8 = 0 ∧ (0xFFFFFFC8 : Word).toNat = 2 ^ 32 - 56)
    ∧ ((0xFFFFFFD0 : Word).toNat % 8 = 0 ∧ (0xFFFFFFD0 : Word).toNat > 2 ^ 32 - 56) ∧ (0x8004 : Word).toNat % 8 ≠ 0
    ∧ (32768 : Half).toNat * (512 : Half).toNat = 2 ^ 24 ∧ longest.count.toNat * longest.blocksize.toNat = 2 ^ 24 - 1 := by
  decide
theorem wit_ResultReturned : ({ inState .exDone with result := some .notReady } : State).st = .exDone
    ∧ ({ inState .exDone with result := some .notReady } : State).result = some .notReady := by decide
theorem wit_ResetWordWritten : (inState .buReset).st = .buReset := by decide
theorem wit_InterruptMaskWritten : (inState .buImask).st = .buImask := by decide
theorem wit_InterruptStatusCleared : (inState .buIclr1).st = .buIclr1 ∧ (inState .buIclr2).st = .buIclr2 := by decide
theorem wit_HandshakeWordWritten : (inState .buHscmd).st = .buHscmd := by decide
theorem wit_RequestWordSent : ((inState .buSend).st = .buSend ∧ (inState .buSend).idx = 0)
    ∧ (({ inState .buSend with idx := 6 } : State).st = .buSend ∧ ({ inState .buSend with idx := 6 } : State).idx < 7) := by
  decide
theorem wit_ReplyHalfwordStored :
    ((inState .buRecv).st = .buRecv ∧ (inState .buRecv).idx < (inState .buRecv).cfg.replyHalfwords)
    ∧ ({ inState .buRecv with idx := 9 } : State).idx + 1 = (inState .buRecv).cfg.replyHalfwords
    ∧ (script [0xFFFF1234]).take .doorbell = some (0xFFFF1234, script []) := by decide
theorem wit_ReplyBufferPublished : (inState .buPublish).st = .buPublish := by decide
theorem wit_FrameWrittenToMemory : (inState .exBuild).st = .exBuild ∧ (inState .exBuild).latch.frameAddr.toNat + 56 ≤ 2 ^ 32
    ∧ (0xFFFFFFC8 : Word).toNat + 56 = 2 ^ 32 := by decide
theorem wit_RequestPosted : (inState .exPost).st = .exPost := by decide
theorem wit_RequestResubmitted : (inState .exResubmit).st = .exResubmit := by decide
theorem wit_StatusPolled : (inState .exStatus).st = .exStatus
    ∧ (script [8]).take .istatus = some (8, script []) ∧ (8 : Word).getLsbD 3 = true
    ∧ (script [0xFFFFFFF7]).take .istatus = some (0xFFFFFFF7, script []) ∧ (0xFFFFFFF7 : Word).getLsbD 3 = false := by decide
theorem wit_BackoffRecorded : (inState .exBackoff).st = .exBackoff := by decide
theorem wit_TokenReadAndHandled : (inState .exDrain).st = .exDrain
    ∧ (script [0x80003F80]).take .repq = some (0x80003F80, script [])
    ∧ (0x80003F80 : Word) <<< 1 = (inState .exDrain).cfg.replyBufAddr
    ∧ (script [0x7F00]).take .repq = some (0x7F00, script []) := by decide
theorem wit_TokenClassEffects : (inState .exDrain).st = .exDrain ∧ (inState .exDrain).retried = false
    ∧ ({ inState .exDrain with retried := true } : State).st = .exDrain := by decide
theorem wit_UnansweredReadWaits :
    ((inState .buRecv).st = .buRecv ∧ (inState .buRecv).idx < (inState .buRecv).cfg.replyHalfwords)
    ∧ (inState .exStatus).st = .exStatus ∧ (inState .exDrain).st = .exDrain
    ∧ (script []).take .doorbell = none ∧ (script []).take .istatus = none ∧ (script []).take .repq = none := by decide
theorem wit_OnlyResetLeavesFault : (inState .fault).st = .fault ∧ (inState .fault).turns = []
    ∧ ({ inState .fault with turns := [.hostObserves] } : State).turns.head? ≠ some .platformResets
    ∧ (got (step { inState .fault with turns := [.hostObserves] })).isSome = true := by decide
theorem wit_EngineResetFromAnyState :
    ({ inState .exStatus with turns := [.platformResets, .engine] } : State).turns = .platformResets :: [.engine] := by decide
theorem wit_ReplyStoreObserved :
    (({ onTurn .hostObserves with replyFilled := true } : State).turns = .hostObserves :: []
      ∧ ({ onTurn .hostObserves with replyFilled := true } : State).replyFilled = true)
    ∧ ((onTurn .hostObserves).turns = .hostObserves :: [] ∧ (onTurn .hostObserves).replyFilled = false
      ∧ (onTurn .hostObserves).st ≠ .fault) := by decide
theorem wit_ControllerWriteChangesOneByte :
    (onTurn (.controllerWrites 0xFFFFFFFF 0x5A)).turns = .controllerWrites 0xFFFFFFFF 0x5A :: [] := by decide
theorem wit_RegisterFrame : ∃ t, exec .delay (inState .exBackoff) = .next t := ⟨_, rfl⟩
theorem wit_RegisterFrame_clauses : Instr.delay.accepts = false ∧ Instr.delay.movesIdx = false
    ∧ Instr.delay.writesOutcome = false ∧ Instr.delay ≠ .rdDoorbell := by decide
theorem wit_MemoryAndPortFrame : (∃ t, exec .delay (inState .exBackoff) = .next t)
    ∧ (∃ t, exec .tokDrained (inState .exDrain) = .next t) ∧ (∃ t, exec (.bringup 0x1000) base = .next t) :=
  ⟨⟨_, rfl⟩, ⟨_, rfl⟩, ⟨_, rfl⟩⟩
theorem wit_MemoryAndPortFrame_clauses : Instr.delay ≠ .rdDoorbell ∧ Instr.delay ≠ .rdIstatus ∧ Instr.delay ≠ .rdRepq
    ∧ Instr.delay ≠ .memwrFrame ∧ Instr.delay ≠ .msgScsiIo ∧ (Instr.bringup 0x1000).accepts = true
    ∧ (tokClassOf .tokDrained).isSome = true := by decide
theorem wit_LatchedInputsHold : (∃ t, step { inState .exBackoff with port := [execReq longest] } = .next t)
    ∧ (inState .exBackoff).st ≠ .idle ∧ (inState .exBackoff).turns.head? ≠ some .platformResets :=
  ⟨⟨_, rfl⟩, by decide, by decide⟩
theorem wit_OneAllowedOperationPerStep : (inState .exPost).turns = [] ∧ ∃ t, step (inState .exPost) = .next t :=
  ⟨by decide, _, rfl⟩
theorem wit_UnusedRegistersUntouched : (inState .exPost).turns = []
    ∧ (∃ t, step (inState .exPost) = .next t ∧ t.trace = (inState .exPost).trace ++ [.wr32 0x1040 0x8000])
    ∧ (0x14 : Word) ∈ [(0x04 : Word), 0x08, 0x0C, 0x10, 0x14] := ⟨by decide, ⟨_, rfl, by decide⟩, by decide⟩
theorem wit_EngineIgnoresMemory : (inState .exBuild).turns = [] := by decide
theorem wit_ResultHasItsCause :
    (∃ t, step (draining [0xAAAA5555]) = .next t ∧ (draining [0xAAAA5555]).st ≠ .exDone ∧ t.st = .exDone)
    ∧ (∃ t, step { inState .exCheck with latch := { read10 with lun := 1 } } = .next t ∧ t.st = .exDone)
    ∧ (∃ t, step { draining [0] with retried := true } = .next t ∧ t.st = .exDone) :=
  ⟨⟨_, rfl, by decide, by decide⟩, ⟨_, rfl, by decide⟩, ⟨_, rfl, by decide⟩⟩

/-- The invariant holds of a state in the middle of an EXEC, once retried. -/
theorem wit_inv : Inv { draining [0] with
    retried := true, trace := [.wr32 0x1040 0x8000, .rd32 0x1044 0, .wr32 0x1040 0x8000] } := by
  constructor <;> decide
theorem wit_StepKeepsInvariant : ∃ t, step { draining [0] with
    retried := true, trace := [.wr32 0x1040 0x8000, .rd32 0x1044 0, .wr32 0x1040 0x8000] } = .next t := ⟨_, rfl⟩
theorem wit_NoThirdSubmission : ∃ t, run 1 { draining [0] with
    retried := true, trace := [.wr32 0x1040 0x8000, .rd32 0x1044 0, .wr32 0x1040 0x8000] } = .next t
    ∧ t.st = .exDone ∧ t.submissions = 2 := ⟨_, rfl, by decide, by decide⟩
theorem wit_BringupRunsToItsEnd :
    let s : State := { presented (bringupReq 0x1000) with doorbellAns := script (List.replicate 10 0xFFFF1234) }
    s.turns = [] ∧ s.st = .idle ∧ s.port = bringupReq 0x1000 :: [] ∧ (bringupReq 0x1000).op = 0
    ∧ (bringupReq 0x1000).inputs.iobase.toNat % 4 = 0 ∧ s.doorbellAns.ready = List.replicate 10 0xFFFF1234 ++ []
    ∧ (List.replicate 10 (0xFFFF1234 : Word)).length = s.cfg.replyHalfwords
    ∧ s.iocReply.length = s.cfg.replyHalfwords := by decide
theorem wit_RejectedLunTouchesNothing :
    let a : ExecInputs := { read10 with lun := 0x0100 }
    (presented (execReq a)).turns = [] ∧ (presented (execReq a)).st = .idle
    ∧ (presented (execReq a)).port = execReq a :: [] ∧ a.lun ≠ 0 := by decide
theorem wit_FastestSuccess :
    let s : State := { presented (execReq read10) with istatusAns := script [8], repqAns := script [0xAAAA5555] }
    s.turns = [] ∧ s.st = .idle ∧ s.port = execReq read10 :: [] ∧ inputsOk read10 = true
    ∧ s.istatusAns.ready = 8 :: [] ∧ (8 : Word).getLsbD 3 = true ∧ s.repqAns.ready = 0xAAAA5555 :: [] := by decide
theorem wit_OneResubmissionThenResult : (draining [0, 0x3F80]).turns = [] ∧ (draining [0, 0x3F80]).st = .exDrain
    ∧ (draining [0, 0x3F80]).retried = false ∧ (draining [0, 0x3F80]).repqAns.ready = 0 :: 0x3F80 :: []
    ∧ (0x3F80 : Word) <<< 1 = (draining [0, 0x3F80]).cfg.replyBufAddr := by decide
theorem wit_OtherTokensDiscarded : (draining [0x7F00, 0x80000000]).turns = []
    ∧ (draining [0x7F00, 0x80000000]).st = .exDrain
    ∧ (draining [0x7F00, 0x80000000]).repqAns.ready = [0x7F00, 0x80000000] ++ []
    ∧ ∀ v ∈ [(0x7F00 : Word), 0x80000000],
        v ≠ 0xAAAA5555 ∧ v ≠ 0 ∧ v <<< 1 ≠ (draining [0x7F00, 0x80000000]).cfg.replyBufAddr ∧ v ≠ 0xFFFFFFFF := by
  refine ⟨by decide, by decide, by decide, fun v hv => ?_⟩
  rcases List.mem_pair.mp hv with rfl | rfl <;> decide
theorem wit_PollNeverTimesOut :
    let s : State := { inState .exStatus with istatusAns := { ready := [1], tail := .cycle 0xFFFFFFF7 [0], drawn := 0 } }
    s.turns = [] ∧ s.st = .exStatus ∧ s.istatusAns.tail = .cycle 0xFFFFFFF7 [0]
    ∧ s.istatusAns.ready ++ 0xFFFFFFF7 :: [0] = [1, 0xFFFFFFF7, 0]
    ∧ (1 : Word).getLsbD 3 = false ∧ (0xFFFFFFF7 : Word).getLsbD 3 = false ∧ (0 : Word).getLsbD 3 = false := by decide

end Sys2Proof.Tests
end

/-! ## The operation a step of the engine appends

Every step of the engine leaves the trace alone or appends one operation of `Event.allowed` (10_state R36, 30_encoding
R141, R143). It is shown once for each shared operation, then for `exec` and for `engineStep`. -/

namespace Sys2Proof.Machine

/-- Of the step from `s` to `t`: the trace is unchanged, or one allowed operation was appended. -/
def AppendsAllowed (s t : State) : Prop :=
  t.trace = s.trace ∨ ∃ e : Event, e.allowed s ∧ t.trace = s.trace ++ [e]

theorem AppendsAllowed.of_same {s t : State} (h : t.trace = s.trace) : AppendsAllowed s t := Or.inl h

theorem AppendsAllowed.of_append {s t : State} {e : Event} (he : e.allowed s) (h : t.trace = s.trace ++ [e]) :
    AppendsAllowed s t := Or.inr ⟨e, he, h⟩

/-- A step that appended the entry `e` was allowed `e`. -/
theorem AppendsAllowed.allowed {s t : State} {e : Event} (h : AppendsAllowed s t) (ht : t.trace = s.trace ++ [e]) :
    e.allowed s := by
  rcases h with hsame | ⟨e', he', happ⟩
  · simp [ht] at hsame
  · have heq : e = e' := by simpa [ht] using happ
    exact heq ▸ he'

/-! ### The allowed operations, register by register -/

theorem Event.allowed_wr_dbReset (s : State) : (Event.wr32 (regAddr s offDoorbell) dbResetWord).allowed s :=
  Or.inl ⟨rfl, Or.inl rfl⟩

theorem Event.allowed_wr_dbHandshake (s : State) : (Event.wr32 (regAddr s offDoorbell) dbHandshakeWord).allowed s :=
  Or.inl ⟨rfl, Or.inr (Or.inl rfl)⟩

theorem Event.allowed_wr_iocInitWord (s : State) {i : Nat} (hi : i < iocInitReqWords) :
    (Event.wr32 (regAddr s offDoorbell) (iocInitWord s.cfg i)).allowed s :=
  Or.inl ⟨rfl, Or.inr (Or.inr ⟨i, hi, rfl⟩)⟩

theorem Event.allowed_wr_istatus (s : State) : (Event.wr32 (regAddr s offIstatus) 0).allowed s :=
  Or.inr (Or.inl ⟨rfl, rfl⟩)

theorem Event.allowed_wr_imask (s : State) : (Event.wr32 (regAddr s offImask) imaskValue).allowed s :=
  Or.inr (Or.inr (Or.inl ⟨rfl, rfl⟩))

theorem Event.allowed_wr_reqq (s : State) : (Event.wr32 (regAddr s offReqq) s.latch.frameAddr).allowed s :=
  Or.inr (Or.inr (Or.inr (Or.inl ⟨rfl, rfl⟩)))

theorem Event.allowed_wr_repq (s : State) : (Event.wr32 (regAddr s offRepq) s.cfg.replyBufAddr).allowed s :=
  Or.inr (Or.inr (Or.inr (Or.inr ⟨rfl, rfl⟩)))

theorem Event.allowed_rd (s : State) (p : ReadPort) (v : Word) :
    (Event.rd32 (regAddr s (readOffset p)) v).allowed s := by
  cases p with
  | doorbell => exact Or.inl rfl
  | istatus => exact Or.inr (Or.inl rfl)
  | repq => exact Or.inr (Or.inr rfl)

/-! ### The shared operations -/

@[simp] theorem recvHalfword_trace (v : Word) (s : State) : (recvHalfword v s).trace = s.trace := by
  unfold recvHalfword
  split <;> rfl

@[simp] theorem tokenEffect_trace (k : TokClass) (s : State) : (tokenEffect k s).trace = s.trace := by
  rcases tokenEffect_cases k s with h | h | h | h | h <;> rw [h] <;> rfl

@[simp] theorem exCheck_trace (s : State) : (exCheck s).trace = s.trace := by
  rcases exCheck_cases s with h | ⟨r, h⟩ | h <;> rw [h] <;> rfl

theorem resetController_appendsAllowed {s t : State} (h : resetController s = .next t) : AppendsAllowed s t := by
  cases h
  exact .of_append (Event.allowed_wr_dbReset s) rfl

theorem commandHandshake_appendsAllowed {s t : State} (h : commandHandshake s = .next t) : AppendsAllowed s t := by
  cases h
  exact .of_append (Event.allowed_wr_dbHandshake s) rfl

theorem sendRequestWord_appendsAllowed {s t : State} (h : sendRequestWord s = .next t) : AppendsAllowed s t := by
  obtain ⟨hi, rfl⟩ := sendRequestWord_next s t h
  refine .of_append (Event.allowed_wr_iocInitWord s hi) ?_
  split <;> rfl

theorem buildFrame_appendsAllowed {s t : State} (h : buildFrame s = .next t) : AppendsAllowed s t := by
  obtain ⟨-, rfl⟩ := buildFrame_next s t h
  exact .of_append (e := .memwr s.latch.frameAddr (encodeFrame s.cfg s.latch)) ⟨rfl, rfl⟩ rfl

/-- A register read appends the read alone, when what follows it appends nothing. -/
theorem onRead_appendsAllowed {p : ReadPort} {s t : State} {k : Word → State → State}
    (hk : ∀ v s', (k v s').trace = s'.trace) (h : onRead p s k = .next t) : AppendsAllowed s t := by
  rcases onRead_next p s t k h with rfl | ⟨v, a, -, rfl⟩
  · exact .of_same rfl
  · exact .of_append (Event.allowed_rd s p v) (by simp [hk])

/-! ### The instructions -/

theorem execBringup_trace {iobase : Word} {s t : State} (h : execBringup iobase s = .next t) : t.trace = s.trace := by
  unfold execBringup at h
  split at h
  · dsimp only at h
    split at h <;> · cases h; rfl
  · cases h

theorem execExec_trace {a : ExecInputs} {s t : State} (h : execExec a s = .next t) : t.trace = s.trace := by
  unfold execExec at h
  split at h
  · cases h; rfl
  · cases h

theorem execRet_trace {r : Status} {s t : State} (h : execRet r s = .next t) : t.trace = s.trace := by
  have hret := (inSeq_next _ s t _ h).2
  split at hret
  · cases hret; rfl
  · cases hret

/-- A token row: the token was read before, so its effect appends nothing. -/
theorem tokenRow_trace {k : TokClass} {s t : State} (h : inSeq .exDrain s (.next (tokenEffect k s)) = .next t) :
    t.trace = s.trace := by
  cases (inSeq_next _ s t _ h).2
  exact tokenEffect_trace k s

/-- A request-word row: word `i` is sent when the handshake index is `i`. -/
theorem requestWordRow_appendsAllowed {i : Nat} {s t : State}
    (h : inSeq .buSend s (if s.idx = i then sendRequestWord s else .refused .outOfSequence) = .next t) :
    AppendsAllowed s t := by
  have hsend := (inSeq_next _ s t _ h).2
  split at hsend
  · exact sendRequestWord_appendsAllowed hsend
  · cases hsend

theorem execWrDoorbell_appendsAllowed {s t : State} (h : execWrDoorbell s = .next t) : AppendsAllowed s t := by
  unfold execWrDoorbell at h
  split at h
  · exact resetController_appendsAllowed h
  · exact commandHandshake_appendsAllowed h
  · exact sendRequestWord_appendsAllowed h
  · cases h

theorem execRdDoorbell_appendsAllowed {s t : State} (h : execRdDoorbell s = .next t) : AppendsAllowed s t := by
  have hread := (inSeq_next _ s t _ h).2
  split at hread
  · exact onRead_appendsAllowed recvHalfword_trace hread
  · cases hread

theorem execWrIstatus_appendsAllowed {s t : State} (h : execWrIstatus s = .next t) : AppendsAllowed s t := by
  unfold execWrIstatus at h
  split at h
  · cases h; exact .of_append (Event.allowed_wr_istatus s) rfl
  · cases h; exact .of_append (Event.allowed_wr_istatus s) rfl
  · cases h

theorem execRdIstatus_appendsAllowed {s t : State} (h : execRdIstatus s = .next t) : AppendsAllowed s t :=
  onRead_appendsAllowed (fun v s' => by split <;> rfl) (inSeq_next _ s t _ h).2

theorem execWrImask_appendsAllowed {s t : State} (h : execWrImask s = .next t) : AppendsAllowed s t := by
  cases (inSeq_next _ s t _ h).2
  exact .of_append (Event.allowed_wr_imask s) rfl

theorem execWrReqq_appendsAllowed {s t : State} (h : execWrReqq s = .next t) : AppendsAllowed s t := by
  unfold execWrReqq at h
  split at h
  · cases h; exact .of_append (Event.allowed_wr_reqq s) rfl
  · cases h; exact .of_append (Event.allowed_wr_reqq s) rfl
  · cases h

theorem execWrRepq_appendsAllowed {s t : State} (h : execWrRepq s = .next t) : AppendsAllowed s t := by
  cases (inSeq_next _ s t _ h).2
  exact .of_append (Event.allowed_wr_repq s) rfl

theorem execRdRepq_appendsAllowed {s t : State} (h : execRdRepq s = .next t) : AppendsAllowed s t :=
  onRead_appendsAllowed (fun _ _ => tokenEffect_trace _ _) (inSeq_next _ s t _ h).2

theorem execDelay_appendsAllowed {s t : State} (h : execDelay s = .next t) : AppendsAllowed s t := by
  cases (inSeq_next _ s t _ h).2
  exact .of_append (e := .delay) trivial rfl

/-! ### The engine -/

/-- An instruction appends nothing or one allowed operation, in any state. -/
theorem exec_appendsAllowed {i : Instr} {s t : State} (h : exec i s = .next t) : AppendsAllowed s t := by
  cases i with
  | bringup iobase => exact .of_same (execBringup_trace h)
  | exec a => exact .of_same (execExec_trace h)
  | dbReset => exact resetController_appendsAllowed (inSeq_next _ s t _ h).2
  | dbHandshake => exact commandHandshake_appendsAllowed (inSeq_next _ s t _ h).2
  | dbMsgword k => exact requestWordRow_appendsAllowed h
  | msgScsiIo => exact buildFrame_appendsAllowed (inSeq_next _ s t _ h).2
  | msgIocInit => exact requestWordRow_appendsAllowed h
  | wrDoorbell => exact execWrDoorbell_appendsAllowed h
  | rdDoorbell => exact execRdDoorbell_appendsAllowed h
  | wrIstatus => exact execWrIstatus_appendsAllowed h
  | rdIstatus => exact execRdIstatus_appendsAllowed h
  | wrImask => exact execWrImask_appendsAllowed h
  | wrReqq => exact execWrReqq_appendsAllowed h
  | wrRepq => exact execWrRepq_appendsAllowed h
  | rdRepq => exact execRdRepq_appendsAllowed h
  | memwrFrame => exact buildFrame_appendsAllowed (inSeq_next _ s t _ h).2
  | delay => exact execDelay_appendsAllowed h
  | ret r => exact .of_same (execRet_trace h)
  | tokCompletion => exact .of_same (tokenRow_trace h)
  | tokSpuriousZero => exact .of_same (tokenRow_trace h)
  | tokSpuriousAlias hi => exact .of_same (tokenRow_trace h)
  | tokDrained => exact .of_same (tokenRow_trace h)
  | tokOther v => exact .of_same (tokenRow_trace h)

theorem stepWithoutInstr_trace {s t : State} (h : stepWithoutInstr s = .next t) : t.trace = s.trace := by
  unfold stepWithoutInstr at h
  split at h
  · cases h; exact exCheck_trace s
  · cases h
  · cases h
  · cases h; rfl

/-- Taking the accepted operation off the host port changes neither the trace nor what is allowed. -/
theorem appendsAllowed_afterFetch {s t : State} : AppendsAllowed (afterFetch s) t ↔ AppendsAllowed s t := by
  unfold afterFetch
  split <;> rfl

theorem engineStep_appendsAllowed {s t : State} (h : engineStep s = .next t) : AppendsAllowed s t := by
  unfold engineStep at h
  split at h
  · exact appendsAllowed_afterFetch.mp (exec_appendsAllowed h)
  · exact .of_same (stepWithoutInstr_trace h)

/-! ### The offsets of the allowed register accesses (10_state R40, R42) -/

/-- The offsets of the five registers the engine uses. -/
def usedOffsets : List Word := [offDoorbell, offIstatus, offImask, offReqq, offRepq]

/-- The five offsets R42 forbids are not among them. -/
theorem not_mem_usedOffsets_of_unused {off : Word} (h : off ∈ [(0x04 : Word), 0x08, 0x0C, 0x10, 0x14]) :
    off ∉ usedOffsets := by
  simp only [List.mem_cons, List.not_mem_nil, or_false] at h
  rcases h with rfl | rfl | rfl | rfl | rfl <;> decide

/-- Register addresses wrap modulo 2^32 (20_memory R71), yet different offsets have different addresses. -/
theorem regAddr_inj {s : State} {off off' : Word} : regAddr s off = regAddr s off' ↔ off = off' :=
  BitVec.add_right_inj s.latch.iobase

theorem Event.mem_usedOffsets_of_allowed_wr {s : State} {off v : Word}
    (h : (Event.wr32 (regAddr s off) v).allowed s) : off ∈ usedOffsets := by
  rcases h with ⟨h, -⟩ | ⟨h, -⟩ | ⟨h, -⟩ | ⟨h, -⟩ | ⟨h, -⟩ <;> simp [usedOffsets, regAddr_inj.mp h]

theorem Event.mem_usedOffsets_of_allowed_rd {s : State} {off v : Word}
    (h : (Event.rd32 (regAddr s off) v).allowed s) : off ∈ usedOffsets := by
  rcases h with h | h | h <;> simp [usedOffsets, regAddr_inj.mp h]

/-- Settles O48: what an engine step appends is allowed, and an allowed register access has a used offset. -/
theorem unusedRegistersUntouched : Obligations.UnusedRegistersUntouched := by
  intro s t e off v hturns hstep htrace hoff
  have hallowed : e.allowed s :=
    (engineStep_appendsAllowed (step_of_no_turns s hturns ▸ hstep)).allowed htrace
  have hunused : off ∉ usedOffsets := not_mem_usedOffsets_of_unused hoff
  constructor
  · rintro rfl
    exact hunused (Event.mem_usedOffsets_of_allowed_wr hallowed)
  · rintro rfl
    exact hunused (Event.mem_usedOffsets_of_allowed_rd hallowed)

end Sys2Proof.Machine

/-! ## The doorbell command word and the IOC-Init request image (30_encoding §1, §3)

A doorbell command word is its three fields side by side, and a halfword laid out in a byte image is read back at its
offset: each field is read off the layout. -/

namespace Sys2Proof.Machine

/-! ### Doorbell command words (R100) -/

/-- The mask of R100 and R104 keeps the low byte. -/
theorem getLsbD_and_0xFF (v : Word) (i : Nat) : (v &&& 0xFF).getLsbD i = (decide (i < 8) && v.getLsbD i) := by
  have hmask : (0xFF : Word) = BitVec.ofNat 32 (2 ^ 8 - 1) := rfl
  rw [hmask, BitVec.getLsbD_and, BitVec.getLsbD_ofNat, Nat.testBit_two_pow_sub_one]
  by_cases hi : i < 8
  · have : i < 32 := by omega
    simp [hi, this]
  · simp [hi]

/-- The table of R100: function in bits 31:24, size in bits 23:16, zeros in bits 15:0. -/
theorem doorbellCmd_eq_append (f n : Word) :
    doorbellCmd f n = f.extractLsb' 0 8 ++ (n.extractLsb' 0 8 ++ (0 : Half)) := by
  apply BitVec.eq_of_getLsbD_eq
  intro i hi
  simp only [doorbellCmd, BitVec.getLsbD_or, BitVec.getLsbD_shiftLeft, getLsbD_and_0xFF,
    BitVec.getLsbD_append, BitVec.getLsbD_extractLsb']
  rcases Nat.lt_or_ge i 16 with hlow | hlow
  · have : i < 24 := by omega
    simp [hlow, this]
  rcases Nat.lt_or_ge i 24 with hsize | hsize
  · simp [hi, hlow, hsize]
  · have : ¬ i - 16 < 8 := by omega
    simp [hi, this]

/-- Settles O1: the formula is the definition, and each field is a part of the word's layout. -/
theorem doorbellCommandFields : Obligations.DoorbellCommandFields := by
  intro f n
  refine ⟨rfl, ?_, ?_, ?_⟩ <;> rw [doorbellCmd_eq_append]
  · exact BitVec.extractLsb'_append_eq_left
  · rw [BitVec.extractLsb'_append_eq_of_add_le (by decide)]
    exact BitVec.extractLsb'_append_eq_left
  · rw [BitVec.extractLsb'_append_eq_of_add_le (by decide)]
    exact BitVec.extractLsb'_append_eq_right

/-! ### The IOC-Init request image (R112) -/

/-- A halfword laid out at offset `k` of an image is read back there. -/
theorem half16_append_le16_append {a : List Byte} {k : Nat} (hk : a.length = k) (v : Half) (b : List Byte) :
    half16 (a ++ (le16 v ++ b)) k = v := by
  subst hk
  calc half16 (a ++ (le16 v ++ b)) a.length
      = half16 (le16 v ++ b) 0 := half16_append_right a (le16 v ++ b) 0
    _ = v := half16_le16 v b

/-- Settles O3: the twelve bytes of the header and the context stand before the reply frame size. -/
theorem replyFrameSizeIsBufferSize : Obligations.ReplyFrameSizeIsBufferSize := by
  intro c
  simp only [iocInitImage, List.append_assoc]
  rw [← List.append_assoc]
  exact half16_append_le16_append rfl c.replyBufBytes _

end Sys2Proof.Machine

/-! ## The checks of `EX_CHECK` (41_scsi R180)

The engine's step in `EX_CHECK` is `exCheck`, which has one equation for a LUN other than 0 and one case list for LUN 0. -/

namespace Sys2Proof.Machine

/-- `EX_CHECK` has no instruction of its own: the engine's step there is the checks. -/
theorem step_of_exCheck {s : State} (hturns : s.turns = []) (hst : s.st = .exCheck) : step s = .next (exCheck s) := by
  have hnone : nextInstr s = none := by rw [nextInstr, hst]
  rw [step_of_no_turns s hturns, engineStep, hnone]
  simp only [stepWithoutInstr, hst]

/-- A LUN other than 0 decides, whatever the other inputs are. -/
theorem exCheck_of_lun_ne_zero {s : State} (hlun : s.latch.lun ≠ 0) : exCheck s = finish .notReady s :=
  if_pos hlun

/-- With LUN 0 the checks end in a model fault or go on to the frame; never in a result. -/
theorem exCheck_of_lun_zero {s : State} (hlun : s.latch.lun = 0) :
    (∃ r, exCheck s = raise r s) ∨ exCheck s = s.goto .exBuild := by
  rw [exCheck, if_neg (not_not.mpr hlun)]
  split
  · exact .inl ⟨.badIobase, rfl⟩
  · split
    · exact .inl ⟨.badFrameAddr, rfl⟩
    · split
      · exact .inl ⟨.lengthOverflow, rfl⟩
      · exact .inr rfl

/-- Settles O21: the LUN is the first condition of the checks, and only its branch makes a result. -/
theorem lunCheckIsFirst : Obligations.LunCheckIsFirst := by
  intro s hturns hst
  rw [step_of_exCheck hturns hst]
  constructor
  · intro hlun
    rw [exCheck_of_lun_ne_zero hlun, finish]
  · intro hlun
    refine ⟨exCheck s, rfl, ?_⟩
    rcases exCheck_of_lun_zero hlun with ⟨r, h⟩ | h <;> simp [h]

end Sys2Proof.Machine

/-! ## The poll of `EX_STATUS` (42_reply R215)

An answered RD_ISTATUS consumes the answer, records the read and moves on; the answer's bit 3 is used for the move alone. -/

namespace Sys2Proof.Machine

/-- The read of `EX_STATUS` once the controller has answered, as one chain of named updates. -/
theorem execRdIstatus_of_answer {s : State} {v : Word} {a : Answers} (hst : s.st = .exStatus)
    (htake : s.istatusAns.take .istatus = some (v, a)) :
    execRdIstatus s = .next (((s.setAnswers .istatus a).emit (.rd32 (regAddr s offIstatus) v)).goto
      (if rpl v then .exDrain else .exBackoff)) := by
  rw [execRdIstatus, inSeq_of_eq _ _ _ hst, onRead_of_some .istatus s _ v a htake]
  exact congrArg _ (apply_ite (State.goto _) (rpl v = true) _ _).symm

/-- Settles O34: the chain of updates writes the answer stream, the trace and the state, and nothing else. -/
theorem statusPolled : Obligations.StatusPolled := by
  intro s v a hst htake
  exact execRdIstatus_of_answer hst htake

end Sys2Proof.Machine

/-! ## One allowed operation a step (00_scope §5)

What an engine step appends was shown above for every state; this is that fact under the machine's own step. -/

namespace Sys2Proof.Machine

/-- Settles O47: with no turn scheduled the machine's step is the engine's. -/
theorem oneAllowedOperationPerStep : Obligations.OneAllowedOperationPerStep := by
  intro s t hturns hstep
  exact engineStep_appendsAllowed (step_of_no_turns s hturns ▸ hstep)

end Sys2Proof.Machine

/-! ## Which instruction a step runs (10_state §1)

Each sequencing state names one instruction, and a step with a named instruction is `exec` of it. -/

namespace Sys2Proof.Machine

theorem nextInstr_of_idle {s : State} (hst : s.st = .idle) : nextInstr s = s.port.head?.map decodeHostReq := by
  rw [nextInstr, hst]

theorem nextInstr_of_exDone {s : State} (hst : s.st = .exDone) : nextInstr s = s.result.map .ret := by
  rw [nextInstr, hst]

/-- Settles O60: the table of `nextInstr`, row by row; in `IDLE` the selector of the presented request decides. -/
theorem sequencingStateNamesInstruction : Obligations.SequencingStateNamesInstruction := by
  intro s
  refine ⟨fun hidle => ⟨?_, ?_⟩, ?_⟩
  · intro hport
    simp [nextInstr_of_idle hidle, hport]
  · intro r rest hport
    constructor <;> intro hop <;> simp [nextInstr_of_idle hidle, hport, decodeHostReq, hop]
  · have hdone : ∀ r, s.st = .exDone → s.result = some r → nextInstr s = some (.ret r) := by
      intro r hst hres
      simp [nextInstr_of_exDone hst, hres]
    refine ⟨?_, ?_, ?_, ?_, ?_, ?_, ?_, ?_, ?_, ?_, ?_, ?_, ?_, ?_, ?_, hdone, ?_⟩
    all_goals intro hst; rw [nextInstr, hst]

theorem afterFetch_of_busy {s : State} (hst : s.st ≠ .idle) : afterFetch s = s := if_neg hst

theorem engineStep_of_nextInstr {s : State} {i : Instr} (hi : nextInstr s = some i) :
    engineStep s = exec i (afterFetch s) := by
  rw [engineStep, hi]

/-- Settles O14: a scheduled engine turn is the engine's step of the state without that turn. -/
theorem stepRunsNextInstruction : Obligations.StepRunsNextInstruction := by
  intro s i hi
  constructor
  · intro hturns
    rw [step_of_no_turns s hturns, engineStep_of_nextInstr hi, afterFetch]
  · intro rest hturns
    have hi' : nextInstr { s with turns := rest } = some i := hi
    rw [step_of_turn s .engine rest hturns, turnStep, engineStep_of_nextInstr hi', afterFetch]

/-- Outside `IDLE` nothing leaves the host port: the step is the named instruction's. -/
theorem step_of_busy {s : State} {i : Instr} (hturns : s.turns = []) (hst : s.st ≠ .idle)
    (hi : nextInstr s = some i) : step s = exec i s := by
  rw [((stepRunsNextInstruction s i hi).1 hturns), if_neg hst]

/-- In `IDLE` the step runs the oldest presented request and takes it off the port. -/
theorem step_of_presented {s : State} {r : HostReq} {rest : List HostReq} (hturns : s.turns = []) (hst : s.st = .idle)
    (hport : s.port = r :: rest) : step s = exec (decodeHostReq r) { s with port := rest } := by
  have hi : nextInstr s = some (decodeHostReq r) := by simp [nextInstr_of_idle hst, hport]
  rw [((stepRunsNextInstruction s _ hi).1 hturns), if_pos hst, hport, List.tail_cons]

/-- Settles O15: the bytes decode to the operation the parsed request names. -/
theorem stepRunsPresentedOperation : Obligations.StepRunsPresentedOperation := by
  intro s b r rest hparse hturns hst hport
  refine ⟨decodeHostReq r, ?_, step_of_presented hturns hst hport⟩
  rw [decode, hparse]

end Sys2Proof.Machine

/-! ## Each instruction in its sequencing state (40_doorbell, 41_scsi §4, 42_reply §2, 43_command)

One equation per instruction and state that performs it. -/

namespace Sys2Proof.Machine

variable {s : State}

/-! ### Host operations -/

theorem execBringup_of_aligned {iobase : Word} (hst : s.st = .idle) (hok : iobaseOk iobase = true) :
    execBringup iobase s = .next ((latchBringup iobase s).goto .buReset) := by
  simp [execBringup, hst, hok]

theorem execBringup_of_misaligned {iobase : Word} (hst : s.st = .idle) (hbad : iobaseOk iobase = false) :
    execBringup iobase s = .next (raise .badIobase (latchBringup iobase s)) := by
  simp [execBringup, hst, hbad]

/-- Settles O17: the two branches of the acceptance. -/
theorem bringupAccepted : Obligations.BringupAccepted := by
  intro s iobase hst
  constructor
  · intro haligned
    exact execBringup_of_aligned hst (decide_eq_true haligned)
  · intro hmisaligned
    exact execBringup_of_misaligned hst (decide_eq_false hmisaligned)

/-- Settles O18: acceptance is `acceptExec`. -/
theorem execAccepted : Obligations.ExecAccepted := by
  intro s a hst
  exact if_pos hst

/-- Settles O19: both acceptances test for `IDLE` first. -/
theorem busyEngineRefuses : Obligations.BusyEngineRefuses := by
  intro s iobase a hst
  exact ⟨if_neg hst, if_neg hst⟩

theorem execRet_of_result {r : Status} (hst : s.st = .exDone) (hres : s.result = some r) :
    execRet r s = .next (hostReturn r s) := by
  rw [execRet, inSeq_of_eq _ _ _ hst, if_pos hres]

/-- Settles O23: RET of the result in `EX_DONE` is `hostReturn`. -/
theorem resultReturned : Obligations.ResultReturned := by
  intro s r hst hres
  exact execRet_of_result hst hres

/-! ### The doorbell handshake -/

theorem dbResetWord_eq : dbResetWord = 0x40000000 := rfl

theorem dbHandshakeWord_eq : dbHandshakeWord = 0x42070000 := rfl

/-- Settles O24: both rows are `resetController` in `BU_RESET`. -/
theorem resetWordWritten : Obligations.ResetWordWritten := by
  intro s hst
  have hop : resetController s =
      .next { s with trace := s.trace ++ [.wr32 s.latch.iobase 0x40000000], st := .buImask } := by
    rw [resetController, dbResetWord_eq, regWrite, regAddr_doorbell]
    rfl
  constructor
  · exact (inSeq_of_eq _ _ _ hst).trans hop
  · rw [← hop]
    simp only [exec, execWrDoorbell, hst]

/-- Settles O25: WR_IMASK belongs to this state alone. -/
theorem interruptMaskWritten : Obligations.InterruptMaskWritten := by
  intro s hst
  exact inSeq_of_eq _ _ _ hst

/-- Settles O26: the two states that clear the interrupt status, each with its own successor. -/
theorem interruptStatusCleared : Obligations.InterruptStatusCleared := by
  intro s
  constructor <;> intro hst <;> rw [exec, execWrIstatus, hst] <;> rfl

/-- Settles O27: both rows are `commandHandshake` in `BU_HSCMD`. -/
theorem handshakeWordWritten : Obligations.HandshakeWordWritten := by
  intro s hst
  have hop : commandHandshake s =
      .next { s with trace := s.trace ++ [.wr32 s.latch.iobase 0x42070000], idx := 0, st := .buSend } := by
    rw [commandHandshake, dbHandshakeWord_eq, regWrite, regAddr_doorbell]
    rfl
  constructor
  · exact (inSeq_of_eq _ _ _ hst).trans hop
  · rw [← hop]
    simp only [exec, execWrDoorbell, hst]

theorem sendRequestWord_of_more (hmore : s.idx + 1 < 7) :
    sendRequestWord s = .next { s with
      trace := s.trace ++ [.wr32 s.latch.iobase (iocInitWord s.cfg s.idx)], idx := s.idx + 1 } := by
  have hidx : s.idx < 7 := Nat.lt_of_succ_lt hmore
  simp only [sendRequestWord, if_pos hidx, iocInitReqWords, if_pos hmore, regWrite, regAddr_doorbell]
  rfl

theorem sendRequestWord_of_last (hlast : s.idx + 1 = 7) :
    sendRequestWord s = .next { s with
      trace := s.trace ++ [.wr32 s.latch.iobase (iocInitWord s.cfg s.idx)], idx := 0, st := .buRecv } := by
  have hidx : s.idx < 7 := Nat.lt_of_succ_le hlast.le
  simp only [sendRequestWord, if_pos hidx, iocInitReqWords, if_neg hlast.not_lt, regWrite, regAddr_doorbell]
  rfl

/-- Settles O28: all three rows are `sendRequestWord` in `BU_SEND`, the named ones at their own index. -/
theorem requestWordSent : Obligations.RequestWordSent := by
  intro s hst hidx s' t
  have hop : sendRequestWord s = .next t := by
    by_cases hmore : s.idx + 1 < 7
    · simp only [t, if_pos hmore]
      exact sendRequestWord_of_more hmore
    · simp only [t, if_neg hmore]
      exact sendRequestWord_of_last (by omega)
  refine ⟨?_, ?_, fun hzero => ?_⟩
  · rw [exec, execDbMsgword, inSeq_of_eq _ _ _ hst, if_pos rfl, hop]
  · simp only [exec, execWrDoorbell, hst, hop]
  · rw [exec, execMsgIocInit, inSeq_of_eq _ _ _ hst, if_pos hzero, hop]

theorem execRdDoorbell_of_answer {v : Word} {a : Answers} (hst : s.st = .buRecv) (hidx : s.idx < s.cfg.replyHalfwords)
    (htake : s.doorbellAns.take .doorbell = some (v, a)) :
    execRdDoorbell s = .next (recvHalfword v ((s.setAnswers .doorbell a).emit (.rd32 s.latch.iobase v))) := by
  rw [execRdDoorbell, inSeq_of_eq _ _ _ hst, if_pos hidx, onRead_of_some .doorbell s _ v a htake]
  exact congrArg (fun addr => Host.Outcome.next
    (recvHalfword v ((s.setAnswers .doorbell a).emit (.rd32 addr v)))) (regAddr_doorbell s)

/-- Settles O29: the answered read, then the two branches of `recvHalfword`. -/
theorem replyHalfwordStored : Obligations.ReplyHalfwordStored := by
  intro s v a hst hidx htake s'
  exact execRdDoorbell_of_answer hst hidx htake

/-- Settles O30: WR_REPQ belongs to this state alone. -/
theorem replyBufferPublished : Obligations.ReplyBufferPublished := by
  intro s hst
  exact inSeq_of_eq _ _ _ hst

/-! ### The frame, the post and the poll -/

theorem buildFrame_of_room (hroom : s.latch.frameAddr.toNat + 56 ≤ 2 ^ 32) :
    buildFrame s = .next ((memWrite s.latch.frameAddr (encodeFrame s.cfg s.latch) s).goto .exPost) := if_pos hroom

/-- Settles O31: the memory is that of `Memory.writeBytes`, whose laws say what reads back. -/
theorem frameWrittenToMemory : Obligations.FrameWrittenToMemory := by
  intro s hst hroom
  have hop := (inSeq_of_eq .exBuild s (buildFrame s) hst).trans (buildFrame_of_room hroom)
  have hlen : (encodeFrame s.cfg s.latch).length = 56 := encodeFrame_length s.cfg s.latch
  refine ⟨_, ⟨hop, hop⟩, ?_, ?_⟩
  · intro k hk
    rw [← hlen] at hk
    rw [memWrite_mem, Memory.read?_writeBytes_inside _ _ _ k hk, byteAt, List.getD_eq_getElem _ _ hk]
  · intro a ha
    rw [← hlen] at ha
    rw [memWrite_mem, Memory.read?_writeBytes_outside _ _ _ a ha]

/-- Settles O32: the first of the two states of WR_REQQ. -/
theorem requestPosted : Obligations.RequestPosted := by
  intro s hst
  rw [exec, execWrReqq, hst]
  rfl

/-- Settles O33: the second of the two states of WR_REQQ. -/
theorem requestResubmitted : Obligations.RequestResubmitted := by
  intro s hst
  rw [exec, execWrReqq, hst]
  rfl

/-- Settles O35: DELAY belongs to this state alone. -/
theorem backoffRecorded : Obligations.BackoffRecorded := by
  intro s hst
  exact inSeq_of_eq _ _ _ hst

/-! ### Tokens -/

theorem tokenEffect_spurious_of_retried (h : s.retried = true) : tokenEffect .spurious s = finish .badTrack s := if_pos h

theorem tokenEffect_spurious_of_first (h : s.retried = false) :
    tokenEffect .spurious s = { s with retried := true, st := .exResubmit } := by
  rw [tokenEffect, h]
  rfl

theorem goto_of_st {q : Seq} (hst : s.st = q) : s.goto q = s := hst ▸ rfl

/-- A token row, in the drain, is the effect of its class. -/
theorem exec_of_tokClassOf {i : Instr} {k : TokClass} (hk : tokClassOf i = some k) (hst : s.st = .exDrain) :
    exec i s = .next (tokenEffect k s) := by
  have hrow : exec i s = inSeq .exDrain s (.next (tokenEffect k s)) := by
    cases i <;> cases hk <;> rfl
  exact hrow.trans (inSeq_of_eq _ _ _ hst)

/-- Settles O37: the five token rows are the effects of four classes. -/
theorem tokenClassEffects : Obligations.TokenClassEffects := by
  intro s hi v hst spurious
  have hspurious : tokenEffect .spurious s = spurious := rfl
  refine ⟨exec_of_tokClassOf (k := .completion) rfl hst, ?_, ?_, exec_of_tokClassOf (k := .drained) rfl hst, ?_⟩
  · rw [exec_of_tokClassOf (k := .spurious) rfl hst, hspurious]
  · rw [exec_of_tokClassOf (k := .spurious) rfl hst, hspurious]
  · rw [exec_of_tokClassOf (k := .other) rfl hst, tokenEffect, goto_of_st hst]

theorem execRdRepq_of_answer {v : Word} {a : Answers} (hst : s.st = .exDrain)
    (htake : s.repqAns.take .repq = some (v, a)) :
    execRdRepq s = .next (tokenEffect (classify s.cfg v)
      ((s.setAnswers .repq a).emit (.rd32 (regAddr s offRepq) v))) := by
  rw [execRdRepq, inSeq_of_eq _ _ _ hst, onRead_of_some .repq s _ v a htake]
  rfl

/-- The effect of a classified token, as the chain of comparisons of R210. -/
theorem tokenEffect_classify (c : Config) (v : Word) (hst : s.st = .exDrain) :
    tokenEffect (classify c v) s =
      if v = contextMagic then finish .success s
      else if v = 0 ∨ shl1 v = c.replyBufAddr then
        (if s.retried then finish .badTrack s else { s with retried := true, st := .exResubmit })
      else if v = drainSentinel then s.goto .exStatus
      else s := by
  unfold classify
  split
  · rfl
  · split
    · rfl
    · split
      · rfl
      · exact goto_of_st hst

/-- Settles O36: the answered read, then the effect of the token's class. -/
theorem tokenReadAndHandled : Obligations.TokenReadAndHandled := by
  intro s v a hst htake s'
  have hst' : s'.st = .exDrain := hst
  exact (execRdRepq_of_answer hst htake).trans (congrArg _ (tokenEffect_classify s.cfg v hst'))

/-- Settles O38: `onRead` waits while its stream gives no answer. -/
theorem unansweredReadWaits : Obligations.UnansweredReadWaits := by
  intro s
  refine ⟨fun hst hidx hnone => ?_, fun hst hnone => ?_, fun hst hnone => ?_⟩
  · rw [exec, execRdDoorbell, inSeq_of_eq _ _ _ hst, if_pos hidx, onRead_of_none .doorbell s _ hnone]
  · exact (inSeq_of_eq _ _ _ hst).trans (onRead_of_none .istatus s _ hnone)
  · exact (inSeq_of_eq _ _ _ hst).trans (onRead_of_none .repq s _ hnone)

end Sys2Proof.Machine

/-! ## The next states of an instruction

`Effect s i t` lists every next state `t` of instruction `i` in state `s`, with the conditions under which it is reached; what
an instruction keeps is then read off this list. -/

namespace Sys2Proof.Machine

/-- The state after a read of a register answered `v`: the answer consumed and the read recorded. -/
def afterRead (p : ReadPort) (v : Word) (a : Answers) (s : State) : State :=
  (s.setAnswers p a).emit (.rd32 (regAddr s (readOffset p)) v)

/-- What an instruction can do, one constructor per way to a next state. -/
inductive Effect (s : State) : Instr → State → Prop
  | bringup {iobase : Word} (hst : s.st = .idle) (hok : iobaseOk iobase = true) :
      Effect s (.bringup iobase) ((latchBringup iobase s).goto .buReset)
  | misaligned {iobase : Word} (hst : s.st = .idle) :
      Effect s (.bringup iobase) (raise .badIobase (latchBringup iobase s))
  | accept {a : ExecInputs} (hst : s.st = .idle) : Effect s (.exec a) (acceptExec a s)
  | resetWord {i : Instr} (hi : i = .dbReset ∨ i = .wrDoorbell) (hst : s.st = .buReset) :
      Effect s i ((regWrite offDoorbell dbResetWord s).goto .buImask)
  | mask (hst : s.st = .buImask) : Effect s .wrImask ((regWrite offImask imaskValue s).goto .buIclr1)
  | clearFirst (hst : s.st = .buIclr1) : Effect s .wrIstatus ((regWrite offIstatus 0 s).goto .buHscmd)
  | handshake {i : Instr} (hi : i = .dbHandshake ∨ i = .wrDoorbell) (hst : s.st = .buHscmd) :
      Effect s i (((regWrite offDoorbell dbHandshakeWord s).setIdx 0).goto .buSend)
  | requestWord {i : Instr} (hi : (∃ k, i = .dbMsgword k) ∨ i = .msgIocInit ∨ i = .wrDoorbell) (hst : s.st = .buSend)
      (hmore : s.idx + 1 < iocInitReqWords) :
      Effect s i ((regWrite offDoorbell (iocInitWord s.cfg s.idx) s).setIdx (s.idx + 1))
  | lastWord {i : Instr} (hi : (∃ k, i = .dbMsgword k) ∨ i = .msgIocInit ∨ i = .wrDoorbell) (hst : s.st = .buSend) :
      Effect s i (((regWrite offDoorbell (iocInitWord s.cfg s.idx) s).setIdx 0).goto .buRecv)
  | halfword {v : Word} {a : Answers} (hst : s.st = .buRecv) (hidx : s.idx < s.cfg.replyHalfwords) :
      Effect s .rdDoorbell (recvHalfword v (afterRead .doorbell v a s))
  | clearSecond (hst : s.st = .buIclr2) : Effect s .wrIstatus ((regWrite offIstatus 0 s).goto .buPublish)
  | publish (hst : s.st = .buPublish) : Effect s .wrRepq ((regWrite offRepq s.cfg.replyBufAddr s).goto .idle)
  | frame {i : Instr} (hi : i = .memwrFrame ∨ i = .msgScsiIo) (hst : s.st = .exBuild)
      (hroom : s.latch.frameAddr.toNat + 56 ≤ 2 ^ 32) :
      Effect s i ((memWrite s.latch.frameAddr (encodeFrame s.cfg s.latch) s).goto .exPost)
  | post (hst : s.st = .exPost) : Effect s .wrReqq ((regWrite offReqq s.latch.frameAddr s).goto .exStatus)
  | resubmit (hst : s.st = .exResubmit) : Effect s .wrReqq ((regWrite offReqq s.latch.frameAddr s).goto .exDrain)
  | status {v : Word} {a : Answers} (hst : s.st = .exStatus) :
      Effect s .rdIstatus ((afterRead .istatus v a s).goto (if rpl v then .exDrain else .exBackoff))
  | backoff (hst : s.st = .exBackoff) : Effect s .delay ((s.emit .delay).goto .exStatus)
  | token {v : Word} {a : Answers} (hst : s.st = .exDrain) (htake : s.repqAns.take .repq = some (v, a)) :
      Effect s .rdRepq (tokenEffect (classify s.cfg v) (afterRead .repq v a s))
  | tokenRow {i : Instr} {k : TokClass} (hk : tokClassOf i = some k) (hst : s.st = .exDrain) :
      Effect s i (tokenEffect k s)
  | ret {r : Status} (hst : s.st = .exDone) : Effect s (.ret r) (hostReturn r s)
  | wait {i : Instr} (hi : i = .rdDoorbell ∨ i = .rdIstatus ∨ i = .rdRepq) : Effect s i s

/-! ### `exec` has no other next state -/

section
variable {s t : State}

theorem execBringup_effect {iobase : Word} (h : execBringup iobase s = .next t) : Effect s (.bringup iobase) t := by
  by_cases hst : s.st = .idle
  · cases hok : iobaseOk iobase with
    | true => rw [execBringup_of_aligned hst hok] at h; cases h; exact .bringup hst hok
    | false => rw [execBringup_of_misaligned hst hok] at h; cases h; exact .misaligned hst
  · rw [execBringup, if_neg hst] at h; cases h

theorem execExec_effect {a : ExecInputs} (h : execExec a s = .next t) : Effect s (.exec a) t := by
  by_cases hst : s.st = .idle
  · rw [execExec, if_pos hst] at h; cases h; exact .accept hst
  · rw [execExec, if_neg hst] at h; cases h

theorem resetController_effect {i : Instr} (hi : i = .dbReset ∨ i = .wrDoorbell) (hst : s.st = .buReset)
    (h : resetController s = .next t) : Effect s i t := by
  cases h
  exact .resetWord hi hst

theorem commandHandshake_effect {i : Instr} (hi : i = .dbHandshake ∨ i = .wrDoorbell) (hst : s.st = .buHscmd)
    (h : commandHandshake s = .next t) : Effect s i t := by
  cases h
  exact .handshake hi hst

theorem sendRequestWord_effect {i : Instr} (hi : (∃ k, i = .dbMsgword k) ∨ i = .msgIocInit ∨ i = .wrDoorbell)
    (hst : s.st = .buSend) (h : sendRequestWord s = .next t) : Effect s i t := by
  obtain ⟨-, rfl⟩ := sendRequestWord_next s t h
  split
  · next hmore => exact .requestWord hi hst hmore
  · exact .lastWord hi hst

/-- A request-word row sends its word when the handshake index is its own. -/
theorem requestWordRow_effect {i : Instr} {k : Nat} (hi : (∃ k, i = .dbMsgword k) ∨ i = .msgIocInit ∨ i = .wrDoorbell)
    (h : inSeq .buSend s (if s.idx = k then sendRequestWord s else .refused .outOfSequence) = .next t) :
    Effect s i t := by
  obtain ⟨hst, hsend⟩ := inSeq_next _ s t _ h
  split at hsend
  · exact sendRequestWord_effect hi hst hsend
  · cases hsend

theorem execWrDoorbell_effect (h : execWrDoorbell s = .next t) : Effect s .wrDoorbell t := by
  unfold execWrDoorbell at h
  split at h
  · next hst => exact resetController_effect (.inr rfl) hst h
  · next hst => exact commandHandshake_effect (.inr rfl) hst h
  · next hst => exact sendRequestWord_effect (.inr (.inr rfl)) hst h
  · cases h

theorem execRdDoorbell_effect (h : execRdDoorbell s = .next t) : Effect s .rdDoorbell t := by
  obtain ⟨hst, hread⟩ := inSeq_next _ s t _ h
  split at hread
  · next hidx =>
    rcases onRead_next _ s t _ hread with rfl | ⟨v, a, -, rfl⟩
    · exact .wait (.inl rfl)
    · exact .halfword hst hidx
  · cases hread

theorem execWrIstatus_effect (h : execWrIstatus s = .next t) : Effect s .wrIstatus t := by
  unfold execWrIstatus at h
  split at h
  · next hst => cases h; exact .clearFirst hst
  · next hst => cases h; exact .clearSecond hst
  · cases h

theorem execRdIstatus_effect (h : execRdIstatus s = .next t) : Effect s .rdIstatus t := by
  obtain ⟨hst, hread⟩ := inSeq_next _ s t _ h
  rcases onRead_next _ s t _ hread with rfl | ⟨v, a, -, rfl⟩
  · exact .wait (.inr (.inl rfl))
  · rw [← apply_ite (State.goto _) (rpl v = true)]
    exact .status hst

theorem execWrReqq_effect (h : execWrReqq s = .next t) : Effect s .wrReqq t := by
  unfold execWrReqq at h
  split at h
  · next hst => cases h; exact .post hst
  · next hst => cases h; exact .resubmit hst
  · cases h

theorem execRdRepq_effect (h : execRdRepq s = .next t) : Effect s .rdRepq t := by
  obtain ⟨hst, hread⟩ := inSeq_next _ s t _ h
  rcases onRead_next _ s t _ hread with rfl | ⟨v, a, htake, rfl⟩
  · exact .wait (.inr (.inr rfl))
  · exact .token hst htake

theorem frameRow_effect {i : Instr} (hi : i = .memwrFrame ∨ i = .msgScsiIo)
    (h : inSeq .exBuild s (buildFrame s) = .next t) : Effect s i t := by
  obtain ⟨hst, hbuild⟩ := inSeq_next _ s t _ h
  obtain ⟨hroom, rfl⟩ := buildFrame_next s t hbuild
  exact .frame hi hst hroom

theorem execRet_effect {r : Status} (h : execRet r s = .next t) : Effect s (.ret r) t := by
  obtain ⟨hst, hret⟩ := inSeq_next _ s t _ h
  split at hret
  · cases hret; exact .ret hst
  · cases hret

theorem tokenRow_effect {i : Instr} {k : TokClass} (hk : tokClassOf i = some k)
    (h : inSeq .exDrain s (.next (tokenEffect k s)) = .next t) : Effect s i t := by
  obtain ⟨hst, htok⟩ := inSeq_next _ s t _ h
  cases htok
  exact .tokenRow hk hst

/-- Every next state of an instruction is in the list. -/
theorem exec_effect {i : Instr} (h : exec i s = .next t) : Effect s i t := by
  cases i with
  | bringup iobase => exact execBringup_effect h
  | exec a => exact execExec_effect h
  | dbReset =>
    obtain ⟨hst, hop⟩ := inSeq_next _ s t _ h
    exact resetController_effect (.inl rfl) hst hop
  | dbHandshake =>
    obtain ⟨hst, hop⟩ := inSeq_next _ s t _ h
    exact commandHandshake_effect (.inl rfl) hst hop
  | dbMsgword k => exact requestWordRow_effect (.inl ⟨k, rfl⟩) h
  | msgScsiIo => exact frameRow_effect (.inr rfl) h
  | msgIocInit => exact requestWordRow_effect (.inr (.inl rfl)) h
  | wrDoorbell => exact execWrDoorbell_effect h
  | rdDoorbell => exact execRdDoorbell_effect h
  | wrIstatus => exact execWrIstatus_effect h
  | rdIstatus => exact execRdIstatus_effect h
  | wrImask =>
    obtain ⟨hst, hop⟩ := inSeq_next _ s t _ h
    cases hop
    exact .mask hst
  | wrReqq => exact execWrReqq_effect h
  | wrRepq =>
    obtain ⟨hst, hop⟩ := inSeq_next _ s t _ h
    cases hop
    exact .publish hst
  | rdRepq => exact execRdRepq_effect h
  | memwrFrame => exact frameRow_effect (.inl rfl) h
  | delay =>
    obtain ⟨hst, hop⟩ := inSeq_next _ s t _ h
    cases hop
    exact .backoff hst
  | ret r => exact execRet_effect h
  | tokCompletion => exact tokenRow_effect rfl h
  | tokSpuriousZero => exact tokenRow_effect rfl h
  | tokSpuriousAlias hi => exact tokenRow_effect rfl h
  | tokDrained => exact tokenRow_effect rfl h
  | tokOther v => exact tokenRow_effect rfl h

end

/-! ### What the shared operations leave alone -/

/-- A token writes the sequencing state, the result and the retry flag, and nothing else. -/
theorem tokenEffect_eq (k : TokClass) (s : State) : tokenEffect k s = { s with
    st := (tokenEffect k s).st, result := (tokenEffect k s).result, retried := (tokenEffect k s).retried } := by
  rcases tokenEffect_cases k s with h | h | h | h | h <;> rw [h] <;> rfl

/-- A token that is drained or of no named class writes the sequencing state alone. -/
theorem tokenEffect_eq_of_noResult {k : TokClass} (s : State) (hk : k = .drained ∨ k = .other) :
    tokenEffect k s = s.goto (tokenEffect k s).st := by
  rcases hk with rfl | rfl <;> rfl

/-- A reply halfword writes the store and its flag, the index and the sequencing state, and nothing else. -/
theorem recvHalfword_eq (v : Word) (s : State) : recvHalfword v s = { s with
    iocReply := s.iocReply.set s.idx (v.extractLsb' 0 16), replyFilled := (recvHalfword v s).replyFilled,
    idx := (recvHalfword v s).idx, st := (recvHalfword v s).st } := by
  unfold recvHalfword
  split <;> rfl

/-- A read writes its answer stream and the trace, and nothing else. -/
theorem afterRead_eq (p : ReadPort) (v : Word) (a : Answers) (s : State) : afterRead p v a s = { s with
    trace := s.trace ++ [.rd32 (regAddr s (readOffset p)) v], doorbellAns := (s.setAnswers p a).doorbellAns,
    istatusAns := (s.setAnswers p a).istatusAns, repqAns := (s.setAnswers p a).repqAns } := by
  cases p <;> rfl

@[simp] theorem afterRead_st (p : ReadPort) (v : Word) (a : Answers) (s : State) : (afterRead p v a s).st = s.st := by
  rw [afterRead_eq]

/-! ### The frames -/

/-- A token row that is not counted among those that write an outcome is of one of two classes. -/
theorem tokClass_of_not_writesOutcome {i : Instr} {k : TokClass} (hk : tokClassOf i = some k)
    (hi : i.writesOutcome = false) : k = .drained ∨ k = .other := by
  cases i <;> cases hk
  case tokDrained => exact .inl rfl
  case tokOther => exact .inr rfl
  all_goals cases hi

/-- Settles O44: each entry of the list, with the instructions it is reached by. -/
theorem registerFrame : Obligations.RegisterFrame := by
  intro i s t h
  cases exec_effect h with
  | bringup | misaligned | accept => simp [Instr.accepts, Instr.movesIdx, Instr.writesOutcome]
  | resetWord hi | handshake hi | frame hi =>
    rcases hi with rfl | rfl <;> simp [Instr.movesIdx]
  | requestWord hi | lastWord hi =>
    rcases hi with ⟨k, rfl⟩ | rfl | rfl <;> simp [Instr.movesIdx]
  | halfword => rw [recvHalfword_eq, afterRead_eq]; simp [Instr.movesIdx]
  | status => simp [afterRead_eq]
  | token => rw [tokenEffect_eq, afterRead_eq]; simp [Instr.writesOutcome]
  | @tokenRow _ k hk =>
    have houtcome : i.writesOutcome = false →
        (tokenEffect k s).retried = s.retried ∧ (tokenEffect k s).result = s.result := by
      intro hi
      rw [tokenEffect_eq_of_noResult s (tokClass_of_not_writesOutcome hk hi)]
      exact ⟨rfl, rfl⟩
    refine ⟨?_, ?_, ?_, houtcome, ?_⟩ <;> rw [tokenEffect_eq] <;> simp
  | _ => simp

/-- Settles O45: each entry of the list, with the instructions it is reached by. -/
theorem memoryAndPortFrame : Obligations.MemoryAndPortFrame := by
  intro i s t h
  cases exec_effect h with
  | resetWord hi | handshake hi | frame hi =>
    rcases hi with rfl | rfl <;> simp [Instr.accepts, tokClassOf]
  | requestWord hi | lastWord hi =>
    rcases hi with ⟨k, rfl⟩ | rfl | rfl <;> simp [Instr.accepts, tokClassOf]
  | halfword => rw [recvHalfword_eq, afterRead_eq]; simp [Instr.accepts, tokClassOf, State.setAnswers]
  | status => rw [afterRead_eq]; simp [Instr.accepts, tokClassOf, State.setAnswers]
  | token => rw [tokenEffect_eq, afterRead_eq]; simp [Instr.accepts, tokClassOf, State.setAnswers]
  | tokenRow => rw [tokenEffect_eq]; simp
  | wait => simp
  | _ => simp [Instr.accepts, tokClassOf]

end Sys2Proof.Machine

/-! ## Reply tokens (30_encoding §8, 42_reply §1)

Bit 0 of `REPLY_BUF_ADDR` is 0 and the address is not 0, so for each value of bit 31 one token aliases the buffer, and it is
none of the three fixed tokens. -/

namespace Sys2Proof

/-- What R8 says of the number of reply halfwords, of the reply buffer's address and of the status codes. -/
theorem Config.constraints (c : Config) : 1 ≤ c.replyHalfwords ∧ (c.replyBufAddr % 8 = 0 ∧ c.replyBufAddr ≠ 0)
    ∧ c.codeSuccess ≠ c.codeNotReady ∧ c.codeSuccess ≠ c.codeBadTrack ∧ c.codeNotReady ≠ c.codeBadTrack := by
  have hok := c.ok
  simp only [Params.valid, Bool.and_eq_true, decide_eq_true_eq] at hok
  obtain ⟨⟨⟨⟨⟨⟨⟨-, hcount⟩, haddr⟩, -⟩, -⟩, -⟩, ⟨hsn, hsb⟩, hnb⟩, -⟩ := hok
  exact ⟨hcount.1, haddr, hsn, hsb, hnb⟩

theorem Config.replyHalfwords_pos (c : Config) : 0 < c.replyHalfwords := c.constraints.1

theorem Config.replyBufAddr_aligned (c : Config) : c.replyBufAddr.toNat % 8 = 0 := by
  simpa using congrArg BitVec.toNat c.constraints.2.1.1

theorem Config.replyBufAddr_ne_zero (c : Config) : c.replyBufAddr.toNat ≠ 0 := by
  have hne := c.constraints.2.1.2
  rwa [ne_eq, ← BitVec.toNat_inj] at hne

end Sys2Proof

namespace Sys2Proof.Machine

/-! ### Alias tokens as numbers -/

theorem toNat_shl1 (v : Word) : (shl1 v).toNat = 2 * v.toNat % 2 ^ 32 := by
  rw [shl1, BitVec.toNat_shiftLeft, Nat.shiftLeft_eq, Nat.mul_comm, Nat.pow_one]

theorem toNat_aliasToken (c : Config) (bit31 : Bool) :
    (aliasToken c bit31).toNat = c.replyBufAddr.toNat / 2 + if bit31 then 2 ^ 31 else 0 := by
  have hlow : c.replyBufAddr.toNat / 2 < 2 ^ 31 := by omega
  have hshift : (c.replyBufAddr >>> 1).toNat = c.replyBufAddr.toNat / 2 := by
    rw [BitVec.toNat_ushiftRight, Nat.shiftRight_eq_div_pow, Nat.pow_one]
  cases bit31 with
  | false => simp [aliasToken, hshift]
  | true =>
    rw [aliasToken, if_pos rfl, if_pos rfl, BitVec.toNat_or, hshift, Nat.add_comm]
    exact (Nat.or_comm _ _).trans (Nat.two_pow_add_eq_or_of_lt hlow 1).symm

/-- A token shifted left is the buffer's address exactly when its low 31 bits are the address without bit 0. -/
theorem shl1_eq_replyBufAddr_iff (c : Config) (v : Word) :
    shl1 v = c.replyBufAddr ↔ v.toNat % 2 ^ 31 = c.replyBufAddr.toNat / 2 := by
  have haligned := c.replyBufAddr_aligned
  rw [← BitVec.toNat_inj, toNat_shl1]
  omega

theorem low31_eq_iff (v a : Word) : v.extractLsb' 0 31 = a.extractLsb' 1 31 ↔ v.toNat % 2 ^ 31 = a.toNat / 2 := by
  rw [← BitVec.toNat_inj, BitVec.extractLsb'_toNat, BitVec.extractLsb'_toNat, Nat.shiftRight_zero,
    Nat.shiftRight_eq_div_pow]
  omega

theorem eq_aliasToken_iff (c : Config) (v : Word) (bit31 : Bool) :
    v = aliasToken c bit31 ↔ shl1 v = c.replyBufAddr ∧ v.getLsbD 31 = bit31 := by
  have hbit : v.getLsbD 31 = decide (2 ^ 31 ≤ v.toNat) := by
    simpa [BitVec.msb_eq_getLsbD_last] using BitVec.msb_eq_decide v
  rw [shl1_eq_replyBufAddr_iff, ← BitVec.toNat_inj, toNat_aliasToken, hbit]
  cases bit31 <;> simp <;> omega

/-- None of the three fixed tokens aliases the buffer. -/
theorem shl1_ne_replyBufAddr_of_fixed (c : Config) {v : Word} (hv : v = contextMagic ∨ v = 0 ∨ v = drainSentinel) :
    shl1 v ≠ c.replyBufAddr := by
  have haligned := c.replyBufAddr_aligned
  have hne := c.replyBufAddr_ne_zero
  rw [ne_eq, shl1_eq_replyBufAddr_iff]
  rcases hv with rfl | rfl | rfl <;> simp [contextMagic, drainSentinel] <;> omega

/-! ### The decoder of tokens -/

/-- Which token instruction a token decodes to, pattern by pattern. -/
theorem decodeToken_cases (c : Config) (v : Word) :
    (v = contextMagic ∧ decodeToken c v = .tokCompletion)
    ∨ (v = 0 ∧ decodeToken c v = .tokSpuriousZero)
    ∨ (v = drainSentinel ∧ decodeToken c v = .tokDrained)
    ∨ (shl1 v = c.replyBufAddr ∧ decodeToken c v = .tokSpuriousAlias (v.getLsbD 31))
    ∨ (v ≠ contextMagic ∧ v ≠ 0 ∧ v ≠ drainSentinel ∧ shl1 v ≠ c.replyBufAddr ∧ decodeToken c v = .tokOther v) := by
  have halias : v.extractLsb' 0 31 = c.replyBufAddr.extractLsb' 1 31 ↔ shl1 v = c.replyBufAddr := by
    rw [low31_eq_iff, shl1_eq_replyBufAddr_iff]
  unfold decodeToken
  simp only [halias]
  split
  · next h => exact .inl ⟨h, rfl⟩
  · next hm =>
    split
    · next h => exact .inr (.inl ⟨h, rfl⟩)
    · next hz =>
      split
      · next h => exact .inr (.inr (.inl ⟨h, rfl⟩))
      · next hd =>
        split
        · next h => exact .inr (.inr (.inr (.inl ⟨h, rfl⟩)))
        · next ha => exact .inr (.inr (.inr (.inr ⟨hm, hz, hd, ha, rfl⟩)))

/-- Settles O8: in each pattern the instruction's value is the token. -/
theorem tokenStandsForItsValue : Obligations.TokenStandsForItsValue := by
  intro c v
  rcases decodeToken_cases c v with ⟨rfl, h⟩ | ⟨rfl, h⟩ | ⟨rfl, h⟩ | ⟨ha, h⟩ | ⟨hm, hz, hd, ha, h⟩ <;> rw [h]
  · exact ⟨rfl, rfl⟩
  · exact ⟨rfl, rfl⟩
  · exact ⟨rfl, rfl⟩
  · exact ⟨rfl, ((eq_aliasToken_iff c v _).mpr ⟨ha, rfl⟩).symm⟩
  · refine ⟨?_, rfl⟩
    simp only [Instr.wf, Bool.and_eq_true, decide_eq_true_eq]
    exact ⟨⟨⟨hm, hz⟩, ha⟩, hd⟩

/-- Settles O9: every clause is a form, in numbers, of the pattern of R132. -/
theorem aliasTokensAreTwo : Obligations.AliasTokensAreTwo := by
  intro c v
  refine ⟨?_, fun bit31 => ⟨?_, ?_⟩, ?_, ?_, ?_, rfl, ?_⟩
  · rw [eq_aliasToken_iff, eq_aliasToken_iff]
    cases v.getLsbD 31 <;> simp
  · intro hdec
    have hval := (tokenStandsForItsValue c v).2
    rw [hdec] at hval
    exact hval.symm
  · intro hv
    obtain ⟨ha, hbit⟩ := (eq_aliasToken_iff c v bit31).mp hv
    have hfixed := mt (shl1_ne_replyBufAddr_of_fixed c (v := v)) (not_not.mpr ha)
    rcases decodeToken_cases c v with ⟨h, -⟩ | ⟨h, -⟩ | ⟨h, -⟩ | ⟨-, h⟩ | ⟨-, -, -, h, -⟩
    · exact absurd (.inl h) hfixed
    · exact absurd (.inr (.inl h)) hfixed
    · exact absurd (.inr (.inr h)) hfixed
    · rw [h, hbit]
    · exact absurd ha h
  · rw [shl1_eq_replyBufAddr_iff, low31_eq_iff]
  · have hmask : ((0x7FFFFFFF : Nat) : Word).toNat = 2 ^ 31 - 1 := rfl
    rw [shl1_eq_replyBufAddr_iff, ← BitVec.toNat_inj, BitVec.toNat_and, hmask, Nat.and_two_pow_sub_one_eq_mod,
      BitVec.toNat_ushiftRight, Nat.shiftRight_eq_div_pow, Nat.pow_one]
  · exact BitVec.or_zero
  · intro heq
    have hbit := ((eq_aliasToken_iff c _ true).mp heq).2
    have hbit' := ((eq_aliasToken_iff c _ false).mp rfl).2
    rw [hbit] at hbit'
    cases hbit'

/-! ### The classifier -/

/-- The magic and the drain sentinel are no spurious tokens. -/
theorem not_spurious_of_fixed (c : Config) {v : Word} (hv : v = contextMagic ∨ v = drainSentinel) :
    ¬ (v = 0 ∨ shl1 v = c.replyBufAddr) := by
  rcases hv with rfl | rfl
  · exact not_or.mpr ⟨by decide, shl1_ne_replyBufAddr_of_fixed c (.inl rfl)⟩
  · exact not_or.mpr ⟨by decide, shl1_ne_replyBufAddr_of_fixed c (.inr (.inr rfl))⟩

/-- Settles O10: no token matches two patterns, so each comparison of the chain decides its own class. -/
theorem classesAreTheirPatterns : Obligations.ClassesAreTheirPatterns := by
  intro c v
  have hmagic : v = contextMagic → ¬ (v = 0 ∨ shl1 v = c.replyBufAddr) := fun h => not_spurious_of_fixed c (.inl h)
  have hdrain : v = drainSentinel → ¬ (v = 0 ∨ shl1 v = c.replyBufAddr) := fun h => not_spurious_of_fixed c (.inr h)
  have hfixed : v = contextMagic → v ≠ drainSentinel := by rintro rfl; decide
  unfold classify
  split_ifs with hm hs hd
  · exact ⟨iff_of_true rfl hm, iff_of_false nofun (hmagic hm), iff_of_false nofun (hfixed hm),
      iff_of_false nofun fun h => h.1 hm⟩
  · exact ⟨iff_of_false nofun hm, iff_of_true rfl hs, iff_of_false nofun fun h => hdrain h hs,
      iff_of_false nofun fun ⟨_, hz, ha, _⟩ => hs.elim hz ha⟩
  · exact ⟨iff_of_false nofun hm, iff_of_false nofun hs, iff_of_true rfl hd,
      iff_of_false nofun fun ⟨_, _, _, h⟩ => h hd⟩
  · exact ⟨iff_of_false nofun hm, iff_of_false nofun hs, iff_of_false nofun hd,
      iff_of_true rfl ⟨hm, fun h => hs (.inl h), fun h => hs (.inr h), hd⟩⟩

/-- Settles O11: pattern by pattern, the class of the instruction is the class of the token. -/
theorem decoderAgreesWithClassifier : Obligations.DecoderAgreesWithClassifier := by
  intro c v
  obtain ⟨hc, hs, hd, ho⟩ := classesAreTheirPatterns c v
  rcases decodeToken_cases c v with ⟨h, hdec⟩ | ⟨h, hdec⟩ | ⟨h, hdec⟩ | ⟨h, hdec⟩ | ⟨hm, hz, hdr, ha, hdec⟩ <;>
    rw [hdec]
  · rw [hc.mpr h]; rfl
  · rw [hs.mpr (.inl h)]; rfl
  · rw [hd.mpr h]; rfl
  · rw [hs.mpr (.inr h)]; rfl
  · rw [ho.mpr ⟨hm, hz, ha, hdr⟩]; rfl

/-- Settles O16: RD_REPQ is the read, then the effect of the token's class, and so is the row the token decodes to. -/
theorem stepRunsDecodedToken : Obligations.StepRunsDecodedToken := by
  intro s v a hturns hst htake
  have hnext : nextInstr s = some .rdRepq := by rw [nextInstr, hst]
  rw [step_of_busy hturns (by simp [hst]) hnext]
  refine (execRdRepq_of_answer hst htake).trans (Eq.symm ?_)
  exact exec_of_tokClassOf (decoderAgreesWithClassifier s.cfg v) hst

end Sys2Proof.Machine

/-! ## Register-access codes (30_encoding §9, §10) -/

namespace Sys2Proof.Machine

/-- The table of R141: the decoder is a lookup in it. -/
theorem decodeRegAccess_eq_ok_iff (code : Half) (i : Instr) :
    decodeRegAccess code = .ok i ↔
      (code, i) ∈ [(0x100, Instr.wrDoorbell), (0x000, .rdDoorbell), (0x130, .wrIstatus), (0x030, .rdIstatus),
        (0x134, .wrImask), (0x140, .wrReqq), (0x144, .wrRepq), (0x044, .rdRepq)] := by
  constructor
  · intro h
    unfold decodeRegAccess at h
    split_ifs at h <;> cases h <;> simp [*]
  · simp only [List.mem_cons, Prod.mk.injEq, List.not_mem_nil, or_false]
    rintro (⟨rfl, rfl⟩ | ⟨rfl, rfl⟩ | ⟨rfl, rfl⟩ | ⟨rfl, rfl⟩ | ⟨rfl, rfl⟩ | ⟨rfl, rfl⟩ | ⟨rfl, rfl⟩ | ⟨rfl, rfl⟩) <;> rfl

/-- Settles O12: two bytes are looked up, any other number of bytes is refused. -/
theorem eightRegisterAccesses : Obligations.EightRegisterAccesses := by
  intro c b i
  rw [← decodeRegAccess_eq_ok_iff, decode]
  by_cases hlen : b.length = 2 <;> simp [hlen]

end Sys2Proof.Machine

/-! ## Byte images and their fields (30_encoding §3, §5, 41_scsi §4)

A host request and a frame are fixed bytes, the 16 bytes of the operation block, and fixed bytes again: a field before the
block is read off directly, one behind it is a field of the last part. -/

namespace Sys2Proof.Machine

/-! ### Around the operation block -/

section
variable {pre post : List Byte} {n : Nat} (block : Vector Byte 16)

theorem byteAt_in_block (hpre : pre.length = n) (k : Fin 16) :
    byteAt (pre ++ (block.toList ++ post)) (n + k.val) = block[k] := by
  subst hpre
  have hk : k.val < block.toList.length := by simp
  rw [byteAt_append_right, byteAt_append_left _ _ _ hk, byteAt_toList]

/-- The bytes of the block, collected again. -/
theorem ofFn_block (hpre : pre.length = n) :
    (Vector.ofFn fun k : Fin 16 => byteAt (pre ++ (block.toList ++ post)) (n + k.val)) = block := by
  apply Vector.ext
  intro i hi
  rw [Vector.getElem_ofFn]
  exact byteAt_in_block block hpre ⟨i, hi⟩

theorem half16_behind_block (hpre : pre.length + 16 = n) (k : Nat) :
    half16 (pre ++ (block.toList ++ post)) (n + k) = half16 post k := by
  have hlen : (pre ++ block.toList).length = n := by simpa using hpre
  rw [← List.append_assoc, ← hlen, half16_append_right]

theorem word32_behind_block (hpre : pre.length + 16 = n) (k : Nat) :
    word32 (pre ++ (block.toList ++ post)) (n + k) = word32 post k := by
  have hlen : (pre ++ block.toList).length = n := by simpa using hpre
  rw [← List.append_assoc, ← hlen, word32_append_right]

end

/-! ### Host requests (log 16) -/

/-- The bytes of a host request before the operation block. -/
def hostReqHead (r : HostReq) : List Byte :=
  [r.op.setWidth 8] ++ le32 r.inputs.iobase ++ [r.inputs.target] ++ le16 r.inputs.lun

/-- The bytes of a host request behind the operation block. -/
def hostReqTail (a : ExecInputs) : List Byte :=
  le16 a.blocksize ++ le16 a.count ++ le32 a.dataAddr ++ le32 a.frameAddr ++ le32 a.senseAddr

theorem hostReqBytes_eq (r : HostReq) :
    hostReqBytes r = hostReqHead r ++ (r.inputs.cdb.toList ++ hostReqTail r.inputs) := by
  simp only [hostReqBytes, hostReqHead, hostReqTail, List.append_assoc]

theorem half16_hostReqBytes_tail (r : HostReq) (k : Nat) :
    half16 (hostReqBytes r) (24 + k) = half16 (hostReqTail r.inputs) k := by
  rw [hostReqBytes_eq]
  exact half16_behind_block r.inputs.cdb rfl k

theorem word32_hostReqBytes_tail (r : HostReq) (k : Nat) :
    word32 (hostReqBytes r) (24 + k) = word32 (hostReqTail r.inputs) k := by
  rw [hostReqBytes_eq]
  exact word32_behind_block r.inputs.cdb rfl k

/-- The selector byte holds the one selector bit. -/
theorem selector_eq_zero_or_one (op : BitVec 1) : op.setWidth 8 = (0 : Byte) ∨ op.setWidth 8 = (1 : Byte) := by
  revert op
  decide

theorem selector_setWidth (op : BitVec 1) : ((op.setWidth 8 : Byte).setWidth 1 : BitVec 1) = op := by
  revert op
  decide

/-- The bytes of a host request parse to it. -/
theorem parseHostReq_hostReqBytes (r : HostReq) : parseHostReq (hostReqBytes r) = .ok r := by
  have hlen : (hostReqBytes r).length = 40 := Laws.EncodedLength.hostReqBytes_length r
  have hsel : byteAt (hostReqBytes r) 0 = r.op.setWidth 8 := rfl
  have hwide : ¬ (byteAt (hostReqBytes r) 0 ≠ 0 ∧ byteAt (hostReqBytes r) 0 ≠ 1) := by
    rw [hsel]
    rintro ⟨h0, h1⟩
    exact (selector_eq_zero_or_one r.op).elim h0 h1
  have hiobase : word32 (hostReqBytes r) 1 = r.inputs.iobase := word32_le32 r.inputs.iobase []
  have htarget : byteAt (hostReqBytes r) 5 = r.inputs.target := rfl
  have hlun : half16 (hostReqBytes r) 6 = r.inputs.lun := half16_le16 r.inputs.lun []
  have hcdb : (Vector.ofFn fun k : Fin 16 => byteAt (hostReqBytes r) (8 + k.val)) = r.inputs.cdb := by
    rw [hostReqBytes_eq]
    exact ofFn_block r.inputs.cdb rfl
  have hblocksize : half16 (hostReqBytes r) 24 = r.inputs.blocksize :=
    (half16_hostReqBytes_tail r 0).trans (half16_le16 r.inputs.blocksize [])
  have hcount : half16 (hostReqBytes r) 26 = r.inputs.count :=
    (half16_hostReqBytes_tail r 2).trans (half16_le16 r.inputs.count [])
  have hdata : word32 (hostReqBytes r) 28 = r.inputs.dataAddr :=
    (word32_hostReqBytes_tail r 4).trans (word32_le32 r.inputs.dataAddr [])
  have hframe : word32 (hostReqBytes r) 32 = r.inputs.frameAddr :=
    (word32_hostReqBytes_tail r 8).trans (word32_le32 r.inputs.frameAddr [])
  have hsense : word32 (hostReqBytes r) 36 = r.inputs.senseAddr :=
    (word32_hostReqBytes_tail r 12).trans (word32_le32 r.inputs.senseAddr [])
  rw [parseHostReq, if_neg (not_not.mpr hlen), if_neg hwide, hsel, selector_setWidth, hiobase, htarget, hlun, hcdb,
    hblocksize, hcount, hdata, hframe, hsense]

theorem decode_hostReqBytes (c : Config) (r : HostReq) :
    decode c .hostPort (hostReqBytes r) = .ok (decodeHostReq r) := by
  rw [decode, parseHostReq_hostReqBytes]

/-! ### Decoding what was encoded -/

theorem word32_le32_self (v : Word) : word32 (le32 v) 0 = v := word32_le32 v []

theorem half16_le16_self (v : Half) : half16 (le16 v) 0 = v := half16_le16 v []

theorem decode_doorbellCmd_le32 (c : Config) (w : Word) : decode c .doorbellCmd (le32 w) = decodeDoorbell w := by
  simp [decode, word32_le32_self]

theorem decode_regAccess_le16 (c : Config) (code : Half) : decode c .regAccess (le16 code) = decodeRegAccess code := by
  simp [decode, half16_le16_self]

theorem decode_replyToken_le32 (c : Config) (v : Word) : decode c .replyToken (le32 v) = .ok (decodeToken c v) := by
  simp [decode, word32_le32_self]

theorem decode_iocInitWord (c : Config) {k : Nat} (hk : k < 7) :
    decode c (.iocInitWord k) (le32 (iocInitWord c k)) = .ok (.dbMsgword k) := by
  simp [decode, word32_le32_self, iocInitReqWords, hk]

/-- The three status codes differ, so each names its status. -/
theorem decodeStatus_statusCode (c : Config) (r : Status) : decodeStatus c (statusCode c r) = .ok (.ret r) := by
  obtain ⟨-, -, hsn, hsb, hnb⟩ := c.constraints
  cases r with
  | success => simp [decodeStatus, statusCode]
  | notReady => simp [decodeStatus, statusCode, hsn.symm]
  | badTrack => simp [decodeStatus, statusCode, hsb.symm, hnb.symm]

/-- A well-formed token of no named class decodes to itself. -/
theorem decodeToken_of_wf_other {c : Config} {v : Word} (hwf : (Instr.tokOther v).wf c = true) :
    decodeToken c v = .tokOther v := by
  simp only [Instr.wf, Bool.and_eq_true, decide_eq_true_eq] at hwf
  obtain ⟨⟨⟨hm, hz⟩, ha⟩, hd⟩ := hwf
  rcases decodeToken_cases c v with ⟨h, -⟩ | ⟨h, -⟩ | ⟨h, -⟩ | ⟨h, -⟩ | ⟨-, -, -, -, h⟩
  · exact absurd h hm
  · exact absurd h hz
  · exact absurd h hd
  · exact absurd h ha
  · exact h

/-- Settles O7: place by place, what the encoder writes is what the decoder reads there. -/
theorem decodeOfEncode : Obligations.DecodeOfEncode := by
  intro c i hwf
  cases i with
  | bringup iobase => exact decode_hostReqBytes c (bringupReq iobase)
  | exec a => exact decode_hostReqBytes c (execReq a)
  | dbReset => exact decode_doorbellCmd_le32 c dbResetWord
  | dbHandshake => exact decode_doorbellCmd_le32 c dbHandshakeWord
  | dbMsgword k => exact decode_iocInitWord c (of_decide_eq_true hwf)
  | msgScsiIo => rfl
  | msgIocInit => rfl
  | wrDoorbell => exact decode_regAccess_le16 c 0x100
  | rdDoorbell => exact decode_regAccess_le16 c 0x000
  | wrIstatus => exact decode_regAccess_le16 c 0x130
  | rdIstatus => exact decode_regAccess_le16 c 0x030
  | wrImask => exact decode_regAccess_le16 c 0x134
  | wrReqq => exact decode_regAccess_le16 c 0x140
  | wrRepq => exact decode_regAccess_le16 c 0x144
  | rdRepq => exact decode_regAccess_le16 c 0x044
  | memwrFrame => rfl
  | delay => rfl
  | ret r => exact decodeStatus_statusCode c r
  | tokCompletion => exact decode_replyToken_le32 c contextMagic
  | tokSpuriousZero => exact decode_replyToken_le32 c 0
  | tokSpuriousAlias bit31 =>
    have htok : decodeToken c (aliasToken c bit31) = .tokSpuriousAlias bit31 := ((aliasTokensAreTwo c _).2.1 bit31).mpr rfl
    exact (decode_replyToken_le32 c _).trans (congrArg _ htok)
  | tokDrained => exact decode_replyToken_le32 c drainSentinel
  | tokOther v => exact (decode_replyToken_le32 c v).trans (congrArg _ (decodeToken_of_wf_other hwf))

/-- Settles O13: each table word at the place its length chooses. -/
theorem tableWordsDecode : Obligations.TableWordsDecode := by
  refine ⟨?_, ?_, ?_, ?_, ?_, ?_, ?_, ?_⟩ <;> decide

/-! ### The IOC-Init request words (30_encoding §3) -/

/-- A halfword and two zero bytes read as a word are the halfword, zero-extended. -/
theorem word32_le16_zeros (v : Half) (rest : List Byte) : word32 (le16 v ++ (0 :: 0 :: rest)) 0 = v.setWidth 32 := by
  apply BitVec.eq_of_getLsbD_eq
  intro i hi
  interval_cases i <;> simp [word32, le16, byteAt]

/-- Settles O2: words 2, 4, 5 and 6 are fields of the image; the others are put together from smaller fields. -/
theorem requestWordFormulas : Obligations.RequestWordFormulas := by
  intro c
  have hword0 : iocInitWord c 0 = word32 [c.whoInit, 0, 0, 2] 0 := rfl
  refine ⟨?_, ?_, word32_le32 c.initContext [], word32_le16_zeros c.replyBufBytes [], word32_le32 c.initTail0 [],
    word32_le32 c.initTail1 [], word32_le32 c.initTail2 []⟩
  · rw [hword0]
    simp [word32, byteAt, BitVec.or_comm]
  · rfl

/-! ### The frame (41_scsi §4) -/

/-- The 24 bytes of a frame before the operation block. -/
def frameHead (c : Config) (a : ExecInputs) : List Byte :=
  [a.target, 0x00, 0x00, msgFuncScsiIo, 0x10, 0x20, 0x00, 0x00]
    ++ le32 contextMagic ++ lunArray a.lun ++ le32 (controlWord c (inputsDirection c a))

/-- The 16 bytes of a frame behind the operation block. -/
def frameTail (c : Config) (a : ExecInputs) : List Byte :=
  le32 (dataLength a) ++ le32 a.senseAddr ++ le32 (sgeFlagsLength c a) ++ le32 a.dataAddr

theorem encodeFrame_eq (c : Config) (a : ExecInputs) :
    encodeFrame c a = frameHead c a ++ (a.cdb.toList ++ frameTail c a) := by
  simp only [encodeFrame, frameHead, frameTail, List.append_assoc]

theorem word32_encodeFrame_tail (c : Config) (a : ExecInputs) (k : Nat) :
    word32 (encodeFrame c a) (40 + k) = word32 (frameTail c a) k := by
  rw [encodeFrame_eq]
  exact word32_behind_block a.cdb rfl k

theorem byteAt_encodeFrame_cdb (c : Config) (a : ExecInputs) (k : Fin 16) :
    byteAt (encodeFrame c a) (24 + k.val) = a.cdb[k] := by
  rw [encodeFrame_eq]
  exact byteAt_in_block a.cdb rfl k

section
variable (c : Config) (a : ExecInputs)

theorem encodeFrame_tag : word32 (encodeFrame c a) 8 = contextMagic := word32_le32 contextMagic []

theorem encodeFrame_control : word32 (encodeFrame c a) 20 = controlWord c (inputsDirection c a) :=
  word32_le32 (controlWord c (inputsDirection c a)) []

theorem encodeFrame_dataLength : word32 (encodeFrame c a) 40 = dataLength a :=
  (word32_encodeFrame_tail c a 0).trans (word32_le32 (dataLength a) [])

theorem encodeFrame_senseAddr : word32 (encodeFrame c a) 44 = a.senseAddr :=
  (word32_encodeFrame_tail c a 4).trans (word32_le32 a.senseAddr [])

theorem encodeFrame_sgeFlagsLength : word32 (encodeFrame c a) 48 = sgeFlagsLength c a :=
  (word32_encodeFrame_tail c a 8).trans (word32_le32 (sgeFlagsLength c a) [])

theorem encodeFrame_dataAddr : word32 (encodeFrame c a) 52 = a.dataAddr :=
  (word32_encodeFrame_tail c a 12).trans (word32_le32 a.dataAddr [])

/-- The control word as the chain of R183 and R184. -/
theorem controlWord_inputsDirection : controlWord c (inputsDirection c a) =
    if a.blocksize = 0 then (0 : Word) else if a.cdb[0] ∈ c.writeOps then c.ctrlDataOut else c.ctrlDataIn := by
  unfold inputsDirection direction isWriteCdb
  by_cases hb : a.blocksize = 0
  · rw [if_pos hb, if_pos hb, controlWord]
  · rw [if_neg hb, if_neg hb]
    by_cases hw : a.cdb[0] ∈ c.writeOps <;> simp [hw, controlWord]

end

/-- Settles O4: each field is a field of the head, a byte of the block, or a field of the tail. -/
theorem frameFieldsAtOffsets : Obligations.FrameFieldsAtOffsets := by
  intro c a F
  have hlun : ∀ k, 14 ≤ k → k < 20 → byteAt F k = 0 := by
    intro k hlow hhigh
    interval_cases k <;> rfl
  exact ⟨encodeFrame_length c a, rfl, rfl, rfl, rfl, rfl, rfl, rfl, rfl, encodeFrame_tag c a, ⟨rfl, rfl, hlun⟩,
    (encodeFrame_control c a).trans (controlWord_inputsDirection c a), byteAt_encodeFrame_cdb c a,
    encodeFrame_dataLength c a, encodeFrame_senseAddr c a, encodeFrame_dataAddr c a⟩

/-- The fixed bytes of a frame of LUN 0. -/
theorem frameFixedOk_encodeFrame (c : Config) {a : ExecInputs} (hlun : a.lun = 0) :
    frameFixedOk (encodeFrame c a) = true := by
  have hlow : word32 (encodeFrame c a) 12 = word32 (lunArray a.lun) 0 := rfl
  have hlow0 : word32 (encodeFrame c a) 12 = 0 := by rw [hlow, hlun]; rfl
  have hhigh : word32 (encodeFrame c a) 16 = word32 [0, 0, 0, 0] 0 := rfl
  have hhigh0 : word32 (encodeFrame c a) 16 = 0 := by rw [hhigh]; rfl
  simp only [frameFixedOk, encodeFrame_tag, hlow0, hhigh0]
  rfl

/-- Settles O6: the reader's fields are those of the frame. -/
theorem frameReadsBack : Obligations.FrameReadsBack := by
  intro c a hlun
  have hcdb : (Vector.ofFn fun k : Fin 16 => byteAt (encodeFrame c a) (24 + k.val)) = a.cdb := by
    rw [encodeFrame_eq]
    exact ofFn_block a.cdb rfl
  rw [parseFrame, if_pos ⟨encodeFrame_length c a, frameFixedOk_encodeFrame c hlun⟩, hcdb, encodeFrame_control,
    encodeFrame_dataLength, encodeFrame_senseAddr, encodeFrame_sgeFlagsLength, encodeFrame_dataAddr]
  rfl

/-! ### The scatter-gather word (30_encoding §6) -/

section
variable (c : Config) (a : ExecInputs)

/-- The length field holds the low 24 bits of `P`: the flags are all above it. -/
theorem sgeFlagsLength_length : (sgeFlagsLength c a).extractLsb' 0 24 = BitVec.ofNat 24 (xferLen a) := by
  apply BitVec.eq_of_getLsbD_eq
  intro i hi
  interval_cases i <;> simp [sgeFlagsLength, sgeFlagsBase]

theorem sgeFlagsLength_elementType : (sgeFlagsLength c a).extractLsb' 28 2 = c.sgeElementType := by
  apply BitVec.eq_of_getLsbD_eq
  intro i hi
  interval_cases i <;> simp [sgeFlagsLength, sgeFlagsBase]

theorem dataFlag_inputsDirection : dataFlag (inputsDirection c a) =
    (decide (a.blocksize ≠ 0) && decide (a.cdb[0] ∈ c.writeOps)) := by
  unfold inputsDirection direction isWriteCdb
  by_cases hb : a.blocksize = 0
  · rw [if_pos hb]
    simp [dataFlag, hb]
  · rw [if_neg hb, decide_eq_true hb, Bool.true_and]
    by_cases hw : a.cdb[0] ∈ c.writeOps <;> simp [dataFlag, hw]

theorem sgeFlagsLength_dataFlag : (sgeFlagsLength c a).getLsbD 26 = dataFlag (inputsDirection c a) := by
  simp [sgeFlagsLength, sgeFlagsBase]

end

/-- Settles O5: the length check keeps `P` within its field, and the other bits are those of the base and of the data flag. -/
theorem scatterGatherWordFields : Obligations.ScatterGatherWordFields := by
  intro c a hlen w
  have hw : w = sgeFlagsLength c a := encodeFrame_sgeFlagsLength c a
  have hlength : ((sgeFlagsLength c a).extractLsb' 0 24).toNat = a.count.toNat * a.blocksize.toNat := by
    rw [sgeFlagsLength_length, BitVec.toNat_ofNat]
    exact Nat.mod_eq_of_lt hlen
  have hdata := (sgeFlagsLength_dataFlag c a).trans (dataFlag_inputsDirection c a)
  rw [hw]
  refine ⟨hlength, ?_, ?_, hdata, ?_, sgeFlagsLength_elementType c a, ?_, ?_⟩ <;>
    simp [sgeFlagsLength, sgeFlagsBase]

end Sys2Proof.Machine

/-! ## The step of each agent (00_scope R15, log 14)

A step is the engine's, or the turn of another agent. -/

namespace Sys2Proof.Machine

/-! ### The cases of a step -/

/-- The engine's step is an instruction's, the checks of `EX_CHECK`, or a wait. -/
theorem engineStep_cases {s t : State} (h : engineStep s = .next t) :
    (∃ i, nextInstr s = some i ∧ exec i (afterFetch s) = .next t) ∨ (s.st = .exCheck ∧ t = exCheck s) ∨ t = s := by
  cases hi : nextInstr s with
  | some i => exact .inl ⟨i, rfl, engineStep_of_nextInstr hi ▸ h⟩
  | none =>
    rw [engineStep, hi] at h
    simp only [stepWithoutInstr] at h
    split at h
    · next hst => cases h; exact .inr (.inl ⟨hst, rfl⟩)
    · cases h
    · cases h
    · cases h; exact .inr (.inr rfl)

/-- A step is the engine's, scheduled or not, or another agent's turn. -/
theorem step_cases {s t : State} (h : step s = .next t) :
    (∃ ts, engineStep { s with turns := ts } = .next t)
    ∨ ∃ u rest, s.turns = u :: rest ∧ u ≠ .engine ∧ turnStep u { s with turns := rest } = .next t := by
  cases hturns : s.turns with
  | nil =>
    rw [step_of_no_turns s hturns] at h
    exact .inl ⟨s.turns, h⟩
  | cons u rest =>
    rw [step_of_turn s u rest hturns] at h
    by_cases hu : u = .engine
    · subst hu
      exact .inl ⟨rest, h⟩
    · exact .inr ⟨u, rest, rfl, hu, h⟩

/-- The checks write the sequencing state, the result and the fault reason, and nothing else. -/
theorem exCheck_eq (s : State) : exCheck s = { s with
    st := (exCheck s).st, result := (exCheck s).result, fault := (exCheck s).fault } := by
  rcases exCheck_cases s with h | ⟨r, h⟩ | h <;> rw [h] <;> rfl

/-! ### The checks, condition by condition (60_exceptions R279) -/

theorem iobaseOk_eq_false_iff (iobase : Word) : iobaseOk iobase = false ↔ iobase.toNat % 4 ≠ 0 := decide_eq_false_iff_not

theorem frameAddrOk_eq_false_iff (addr : Word) :
    frameAddrOk addr = false ↔ addr.toNat % 8 ≠ 0 ∨ addr.toNat > 2 ^ 32 - 56 := by
  rw [frameAddrOk, Bool.and_eq_false_iff, decide_eq_false_iff_not, decide_eq_false_iff_not, Nat.not_le]

theorem lengthOk_eq_false_iff (a : ExecInputs) :
    lengthOk a = false ↔ a.count.toNat * a.blocksize.toNat ≥ 2 ^ 24 := by
  rw [lengthOk, decide_eq_false_iff_not, Nat.not_lt, xferLen]

/-- Settles O22: with LUN 0 the remaining conditions of `exCheck` are those of the rule, in its order. -/
theorem checksInOrder : Obligations.ChecksInOrder := by
  intro s hturns hst hlun
  rw [step_of_exCheck hturns hst, exCheck, if_neg (not_not.mpr hlun)]
  exact congrArg _ (if_congr (iobaseOk_eq_false_iff _) rfl
    (if_congr (frameAddrOk_eq_false_iff _) rfl (if_congr (lengthOk_eq_false_iff _) rfl rfl)))

/-! ### The other agents' turns -/

theorem observeStore_of_filled {s : State} (h : s.replyFilled = true) :
    observeStore s = { s with hostOut := s.hostOut ++ [.observed s.iocReply] } := if_pos h

theorem observeStore_of_unfilled {s : State} (h : s.replyFilled = false) (hst : s.st ≠ .fault) :
    observeStore s = raise .unwrittenReplyStore s := by
  rw [observeStore, h, if_neg hst]
  rfl

theorem observeStore_of_fault {s : State} (h : s.replyFilled = false) (hst : s.st = .fault) : observeStore s = s := by
  rw [observeStore, h, if_pos hst]
  rfl

/-- An observation drives the host port, raises a model fault, or does nothing. -/
theorem observeStore_cases (s : State) :
    (∃ out, observeStore s = { s with hostOut := out })
    ∨ (s.st ≠ .fault ∧ observeStore s = raise .unwrittenReplyStore s) := by
  by_cases hfilled : s.replyFilled = true
  · exact .inl ⟨_, observeStore_of_filled hfilled⟩
  · have hunfilled : s.replyFilled = false := by simpa using hfilled
    by_cases hst : s.st = .fault
    · exact .inl ⟨s.hostOut, observeStore_of_fault hunfilled hst⟩
    · exact .inr ⟨hst, observeStore_of_unfilled hunfilled hst⟩

@[simp] theorem observeStore_cfg (s : State) : (observeStore s).cfg = s.cfg := by
  rcases observeStore_cases s with ⟨out, h⟩ | ⟨-, h⟩ <;> simp [h]

@[simp] theorem observeStore_latch (s : State) : (observeStore s).latch = s.latch := by
  rcases observeStore_cases s with ⟨out, h⟩ | ⟨-, h⟩ <;> simp [h]

@[simp] theorem observeStore_port (s : State) : (observeStore s).port = s.port := by
  rcases observeStore_cases s with ⟨out, h⟩ | ⟨-, h⟩ <;> simp [h]

/-- Settles O40: the turn is `engineReset`. -/
theorem engineResetFromAnyState : Obligations.EngineResetFromAnyState := by
  intro s rest hturns
  exact ⟨_, step_of_turn s _ rest hturns, rfl, rfl, rfl, rfl, rfl, rfl, rfl, rfl, rfl, rfl, rfl, rfl, rfl⟩

/-- Settles O42: the two branches of `observeStore` outside FAULT. -/
theorem replyStoreObserved : Obligations.ReplyStoreObserved := by
  intro s rest hturns
  rw [step_of_turn s _ rest hturns, turnStep]
  constructor
  · intro hfilled
    exact congrArg _ (observeStore_of_filled (s := { s with turns := rest }) hfilled)
  · intro hunfilled hst
    exact congrArg _ (observeStore_of_unfilled (s := { s with turns := rest }) hunfilled hst)

/-- Settles O41: the fields of the reset state, and the observation of a store that nothing has filled. -/
theorem stateAfterReset : Obligations.StateAfterReset := by
  have hobserve := (replyStoreObserved { State.reset with turns := [.hostObserves] } [] rfl).2 rfl nofun
  exact ⟨rfl, rfl, rfl, rfl, _, hobserve, rfl, rfl⟩

/-- Settles O43: the turn is one `Memory.write`. -/
theorem controllerWriteChangesOneByte : Obligations.ControllerWriteChangesOneByte := by
  intro s addr b rest hturns
  exact ⟨_, step_of_turn s _ rest hturns, Memory.read?_write_same _ _ _, fun a ha => Memory.read?_write_ne _ _ _ _ ha⟩

/-! ### Rules about every step -/

/-- Outside `IDLE` the engine takes nothing from the host port. -/
theorem engineStep_port_of_busy {s t : State} (hst : s.st ≠ .idle) (h : engineStep s = .next t) : t.port = s.port := by
  rcases engineStep_cases h with ⟨i, -, hexec⟩ | ⟨-, rfl⟩ | rfl
  · rw [afterFetch_of_busy hst] at hexec
    exact (memoryAndPortFrame i s t hexec).1
  · rw [exCheck_eq]
  · rfl

/-- Settles O20: the host's turn adds one operation behind the others, and no other step changes the port. -/
theorem presentedOperationStaysPending : Obligations.PresentedOperationStaysPending := by
  intro s t hst h
  have hsame : t.port = s.port → ∃ more, t.port = s.port ++ more := fun heq => ⟨[], by simp [heq]⟩
  rcases step_cases h with ⟨ts, hengine⟩ | ⟨u, rest, -, hu, hturn⟩
  · exact hsame (engineStep_port_of_busy (s := { s with turns := ts }) hst hengine)
  cases u with
  | engine => exact absurd rfl hu
  | hostPresents r => cases hturn; exact ⟨[r], rfl⟩
  | hostObserves => cases hturn; exact hsame (by simp)
  | controllerAnswers p v => cases hturn; exact hsame (by simp)
  | hostWrites | controllerWrites | platformResets => cases hturn; exact hsame rfl

theorem exec_of_accepts_of_busy {i : Instr} {s : State} (hacc : i.accepts = true) (hst : s.st ≠ .idle) :
    exec i s = .refused .engineBusy := by
  cases i with
  | bringup iobase => exact (busyEngineRefuses s iobase .zero hst).1
  | exec a => exact (busyEngineRefuses s 0 a hst).2
  | _ => cases hacc

/-- A busy engine's instruction is no acceptance, so the latched inputs stay. -/
theorem exec_latch_of_busy {i : Instr} {s t : State} (hst : s.st ≠ .idle) (h : exec i s = .next t) :
    t.latch = s.latch := by
  cases hacc : i.accepts with
  | false => exact ((registerFrame i s t h).2.1 hacc).1
  | true => rw [exec_of_accepts_of_busy hacc hst] at h; cases h

theorem engineStep_cfg {s t : State} (h : engineStep s = .next t) : t.cfg = s.cfg := by
  rcases engineStep_cases h with ⟨i, -, hexec⟩ | ⟨-, rfl⟩ | rfl
  · have hfetch : (afterFetch s).cfg = s.cfg := by unfold afterFetch; split <;> rfl
    exact (registerFrame i _ t hexec).1.trans hfetch
  · rw [exCheck_eq]
  · rfl

theorem engineStep_latch_of_busy {s t : State} (hst : s.st ≠ .idle) (h : engineStep s = .next t) :
    t.latch = s.latch := by
  rcases engineStep_cases h with ⟨i, -, hexec⟩ | ⟨-, rfl⟩ | rfl
  · rw [afterFetch_of_busy hst] at hexec
    exact exec_latch_of_busy hst hexec
  · rw [exCheck_eq]
  · rfl

/-- Settles O46: the engine changes the latch only by an acceptance, and of the other agents only a reset does. -/
theorem latchedInputsHold : Obligations.LatchedInputsHold := by
  intro s t h
  rcases step_cases h with ⟨ts, hengine⟩ | ⟨u, rest, hturns, hu, hturn⟩
  · exact ⟨engineStep_cfg (s := { s with turns := ts }) hengine, 
      fun hst _ => engineStep_latch_of_busy (s := { s with turns := ts }) hst hengine⟩
  cases u with
  | engine => exact absurd rfl hu
  | hostPresents | hostWrites | controllerWrites => cases hturn; exact ⟨rfl, fun _ _ => rfl⟩
  | hostObserves | controllerAnswers => cases hturn; simp
  | platformResets => cases hturn; exact ⟨rfl, fun _ hreset => absurd (by rw [hturns]; rfl) hreset⟩

theorem engineStep_of_fault {s : State} (hst : s.st = .fault) : engineStep s = .fault (.stopped s.fault) := by
  have hnone : nextInstr s = none := by rw [nextInstr, hst]
  rw [engineStep, hnone]
  simp only [stepWithoutInstr, hst]

/-- Settles O39: the engine has no step in FAULT, and of the other agents only a reset writes what the engine holds there. -/
theorem onlyResetLeavesFault : Obligations.OnlyResetLeavesFault := by
  intro s hst
  refine ⟨fun hturns => (step_of_no_turns s hturns).trans (engineStep_of_fault hst), fun t h hreset => ?_⟩
  rcases step_cases h with ⟨ts, hengine⟩ | ⟨u, rest, hturns, hu, hturn⟩
  · rw [engineStep_of_fault (s := { s with turns := ts }) hst] at hengine
    cases hengine
  cases u with
  | engine => exact absurd rfl hu
  | hostPresents | hostWrites | controllerWrites => cases hturn; exact ⟨hst, rfl, rfl⟩
  | hostObserves =>
    cases hturn
    rcases observeStore_cases { s with turns := rest } with ⟨out, hobs⟩ | ⟨hne, -⟩
    · rw [hobs]; exact ⟨hst, rfl, rfl⟩
    · exact absurd hst hne
  | controllerAnswers p v => cases hturn; simp [hst]
  | platformResets => exact absurd (by rw [hturns]; rfl) hreset

/-! ### What makes a result (43_command R243) -/

/-- A token that ends the poll is the magic, or a second spurious one. -/
theorem tokenEffect_done {c : Config} {v : Word} {s : State} (hst : (tokenEffect (classify c v) s).st = .exDone) :
    (v = 0xAAAA5555 ∧ tokenEffect (classify c v) s = finish .success s)
    ∨ ((v = 0 ∨ v <<< 1 = c.replyBufAddr) ∧ s.retried = true ∧ tokenEffect (classify c v) s = finish .badTrack s) := by
  obtain ⟨hcompletion, hspurious, -, -⟩ := classesAreTheirPatterns c v
  cases hk : classify c v with
  | completion => exact .inl ⟨hcompletion.mp hk, rfl⟩
  | spurious =>
    cases hretried : s.retried with
    | true => exact .inr ⟨hspurious.mp hk, rfl, tokenEffect_spurious_of_retried hretried⟩
    | false => rw [hk, tokenEffect_spurious_of_first hretried] at hst; cases hst
  | drained => rw [hk] at hst; cases hst
  | other => rw [hk] at hst; cases hst

theorem recvHalfword_st (v : Word) (s : State) :
    (recvHalfword v s).st = s.st ∨ (recvHalfword v s).st = .buIclr2 := by
  unfold recvHalfword
  split
  · exact .inl rfl
  · exact .inr rfl

/-- An instruction enters `EX_DONE` from the drain alone. -/
theorem exec_done_from_drain {i : Instr} {s t : State} (hne : s.st ≠ .exDone) (h : exec i s = .next t)
    (hdone : t.st = .exDone) : s.st = .exDrain := by
  cases exec_effect h with
  | token hst | tokenRow _ hst => exact hst
  | halfword hst =>
    rcases recvHalfword_st _ (afterRead _ _ _ s) with hq | hq <;> rw [hq] at hdone
    · exact absurd (hst.symm.trans hdone) (by decide)
    · cases hdone
  | status => simp at hdone; split at hdone <;> cases hdone
  | requestWord _ hst => exact absurd hdone (by simp [hst])
  | wait => exact absurd hdone hne
  | _ => cases hdone

/-- What ends the poll in RD_REPQ is the token it read. -/
theorem execRdRepq_done {s t : State} (hne : s.st ≠ .exDone) (h : execRdRepq s = .next t) (hdone : t.st = .exDone) :
    ∃ v a, s.repqAns.take .repq = some (v, a) ∧
      ((v = 0xAAAA5555 ∧ t.result = some .success)
      ∨ ((v = 0 ∨ v <<< 1 = s.cfg.replyBufAddr) ∧ s.retried = true ∧ t.result = some .badTrack)) := by
  rcases onRead_next _ s t _ (inSeq_next _ s t _ h).2 with rfl | ⟨v, a, htake, rfl⟩
  · exact absurd hdone hne
  · refine ⟨v, a, htake, ?_⟩
    rcases tokenEffect_done hdone with ⟨hv, heq⟩ | ⟨hv, hretried, heq⟩ <;> rw [heq]
    · exact .inl ⟨hv, rfl⟩
    · exact .inr ⟨hv, hretried, rfl⟩

/-- Settles O50: an instruction makes a result from a token it read, the checks from the LUN. -/
theorem resultHasItsCause : Obligations.ResultHasItsCause := by
  intro s t hturns h hne hdone
  rw [step_of_no_turns s hturns] at h
  rcases engineStep_cases h with ⟨i, hi, hexec⟩ | ⟨hst, rfl⟩ | rfl
  · have hdrain : s.st = .exDrain := by
      have hfetch : (afterFetch s).st = s.st := by unfold afterFetch; split <;> rfl
      exact hfetch ▸ exec_done_from_drain (hfetch ▸ hne) hexec hdone
    have hread : i = .rdRepq := by
      rw [nextInstr, hdrain] at hi
      exact (Option.some.inj hi).symm
    rw [hread, afterFetch_of_busy (by simp [hdrain])] at hexec
    obtain ⟨v, a, htake, ⟨rfl, hres⟩ | ⟨hv, hretried, hres⟩⟩ := execRdRepq_done hne hexec hdone
    · exact .inl ⟨hres, hdrain, a, htake⟩
    · exact .inr (.inr ⟨hres, hdrain, hretried, v, a, htake, hv⟩)
  · by_cases hlun : s.latch.lun = 0
    · rcases exCheck_of_lun_zero hlun with ⟨r, hcheck⟩ | hcheck <;> rw [hcheck] at hdone <;> cases hdone
    · rw [exCheck_of_lun_ne_zero hlun]
      exact .inr (.inl ⟨rfl, hst, hlun⟩)
  · exact absurd hdone hne

end Sys2Proof.Machine

/-! ## What the engine does does not depend on memory (20_memory R78, 41_scsi R191)

Each shared operation gives the same outcome, memory forgotten, whatever memory it starts with; the frame write is the one that
changes memory, and it reads none. -/

namespace Sys2Proof.Machine

section
variable (s : State) (m : Memory)

/-! ### The operations that commute with a change of memory -/

theorem answers_withMem (p : ReadPort) : (s.withMem m).answers p = s.answers p := by cases p <;> rfl

theorem setAnswers_withMem (p : ReadPort) (a : Answers) : (s.withMem m).setAnswers p a = (s.setAnswers p a).withMem m := by
  cases p <;> rfl

theorem tokenEffect_withMem (k : TokClass) : tokenEffect k (s.withMem m) = (tokenEffect k s).withMem m := by
  cases k with
  | spurious => simp only [tokenEffect, apply_ite (State.withMem · m)]; rfl
  | completion | drained | other => rfl

theorem recvHalfword_withMem (v : Word) : recvHalfword v (s.withMem m) = (recvHalfword v s).withMem m := by
  simp only [recvHalfword, apply_ite (State.withMem · m)]
  rfl

theorem exCheck_withMem : exCheck (s.withMem m) = (exCheck s).withMem m := by
  simp only [exCheck, apply_ite (State.withMem · m)]
  rfl

theorem afterFetch_withMem : afterFetch (s.withMem m) = (afterFetch s).withMem m := by
  simp only [afterFetch, apply_ite (State.withMem · m)]
  rfl

/-! ### Outcomes with memory forgotten -/

theorem inSeq_forgetMem {q : Seq} {o o' : Outcome} (h : o.forgetMem = o'.forgetMem) :
    (inSeq q (s.withMem m) o).forgetMem = (inSeq q s o').forgetMem := by
  by_cases hst : s.st = q
  · rw [inSeq_of_eq q s _ hst, inSeq_of_eq q (s.withMem m) _ hst, h]
  · rw [inSeq_of_ne q s _ hst, inSeq_of_ne q (s.withMem m) _ hst]

theorem onRead_forgetMem (p : ReadPort) {k : Word → State → State}
    (hk : ∀ v s', k v (s'.withMem m) = (k v s').withMem m) :
    (onRead p (s.withMem m) k).forgetMem = (onRead p s k).forgetMem := by
  cases htake : (s.answers p).take p with
  | none =>
    have htake' : ((s.withMem m).answers p).take p = none := by rw [answers_withMem, htake]
    rw [onRead_of_none p s k htake, onRead_of_none p _ k htake']
    rfl
  | some r =>
    have htake' : ((s.withMem m).answers p).take p = some (r.1, r.2) := by rw [answers_withMem, htake]
    have hread (e : Event) : ((s.setAnswers p r.2).withMem m).emit e = ((s.setAnswers p r.2).emit e).withMem m := rfl
    rw [onRead_of_some p s k r.1 r.2 htake, onRead_of_some p _ k r.1 r.2 htake', setAnswers_withMem, hread, hk]
    rfl

theorem sendRequestWord_forgetMem :
    (sendRequestWord (s.withMem m)).forgetMem = (sendRequestWord s).forgetMem := by
  simp only [sendRequestWord, apply_ite Outcome.forgetMem]
  rfl

theorem requestWordRow_forgetMem (k : Nat) :
    (inSeq .buSend (s.withMem m)
      (if (s.withMem m).idx = k then sendRequestWord (s.withMem m) else .refused .outOfSequence)).forgetMem
    = (inSeq .buSend s (if s.idx = k then sendRequestWord s else .refused .outOfSequence)).forgetMem := by
  refine inSeq_forgetMem s m ?_
  rw [withMem_idx]
  split
  · exact sendRequestWord_forgetMem s m
  · rfl

/-- The frame write stores bytes that do not depend on memory. -/
theorem memWrite_withMem_nil (addr : Word) (bytes : List Byte) :
    (memWrite addr bytes (s.withMem m)).withMem [] = (memWrite addr bytes s).withMem [] := rfl

theorem buildFrame_of_no_room {s : State} (h : ¬ s.latch.frameAddr.toNat + 56 ≤ 2 ^ 32) :
    buildFrame s = .fault .frameOutsideMemory := if_neg h

theorem buildFrame_forgetMem : (buildFrame (s.withMem m)).forgetMem = (buildFrame s).forgetMem := by
  by_cases hroom : s.latch.frameAddr.toNat + 56 ≤ 2 ^ 32
  · rw [buildFrame_of_room hroom, buildFrame_of_room (s := s.withMem m) hroom]
    exact congrArg Host.Outcome.next (congrArg (State.goto · .exPost) (memWrite_withMem_nil s m _ _))
  · rw [buildFrame_of_no_room hroom, buildFrame_of_no_room (s := s.withMem m) hroom]

theorem execBringup_forgetMem (iobase : Word) :
    (execBringup iobase (s.withMem m)).forgetMem = (execBringup iobase s).forgetMem := by
  simp only [execBringup, apply_ite Outcome.forgetMem]
  rfl

theorem execExec_forgetMem (a : ExecInputs) : (execExec a (s.withMem m)).forgetMem = (execExec a s).forgetMem := by
  simp only [execExec, apply_ite Outcome.forgetMem]
  rfl

theorem execWrDoorbell_forgetMem : (execWrDoorbell (s.withMem m)).forgetMem = (execWrDoorbell s).forgetMem := by
  simp only [execWrDoorbell, withMem_st]
  split
  · rfl
  · rfl
  · exact sendRequestWord_forgetMem s m
  · rfl

theorem execRdDoorbell_forgetMem : (execRdDoorbell (s.withMem m)).forgetMem = (execRdDoorbell s).forgetMem := by
  refine inSeq_forgetMem s m ?_
  rw [withMem_idx, withMem_cfg]
  split
  · exact onRead_forgetMem s m .doorbell fun v s' => recvHalfword_withMem s' m v
  · rfl

theorem execWrIstatus_forgetMem : (execWrIstatus (s.withMem m)).forgetMem = (execWrIstatus s).forgetMem := by
  simp only [execWrIstatus, withMem_st]
  split <;> rfl

theorem execRdIstatus_forgetMem : (execRdIstatus (s.withMem m)).forgetMem = (execRdIstatus s).forgetMem := by
  refine inSeq_forgetMem s m (onRead_forgetMem s m .istatus fun v s' => ?_)
  split_ifs <;> rfl

theorem execWrReqq_forgetMem : (execWrReqq (s.withMem m)).forgetMem = (execWrReqq s).forgetMem := by
  simp only [execWrReqq, withMem_st]
  split <;> rfl

theorem execRdRepq_forgetMem : (execRdRepq (s.withMem m)).forgetMem = (execRdRepq s).forgetMem :=
  inSeq_forgetMem s m (onRead_forgetMem s m .repq fun _ s' => tokenEffect_withMem s' m _)

theorem execRet_forgetMem (r : Status) : (execRet r (s.withMem m)).forgetMem = (execRet r s).forgetMem := by
  refine inSeq_forgetMem s m ?_
  rw [withMem_result]
  split_ifs <;> rfl

theorem tokenRow_forgetMem (k : TokClass) :
    (inSeq .exDrain (s.withMem m) (.next (tokenEffect k (s.withMem m)))).forgetMem
      = (inSeq .exDrain s (.next (tokenEffect k s))).forgetMem := by
  refine inSeq_forgetMem s m ?_
  rw [tokenEffect_withMem]
  rfl

/-- An instruction's outcome, memory forgotten, is the same from another memory. -/
theorem exec_forgetMem (i : Instr) : Outcome.forgetMem (exec i (s.withMem m)) = Outcome.forgetMem (exec i s) := by
  cases i with
  | bringup iobase => exact execBringup_forgetMem s m iobase
  | exec a => exact execExec_forgetMem s m a
  | dbReset => exact inSeq_forgetMem s m rfl
  | dbHandshake => exact inSeq_forgetMem s m rfl
  | dbMsgword k => exact requestWordRow_forgetMem s m k
  | msgScsiIo => exact inSeq_forgetMem s m (buildFrame_forgetMem s m)
  | msgIocInit => exact requestWordRow_forgetMem s m 0
  | wrDoorbell => exact execWrDoorbell_forgetMem s m
  | rdDoorbell => exact execRdDoorbell_forgetMem s m
  | wrIstatus => exact execWrIstatus_forgetMem s m
  | rdIstatus => exact execRdIstatus_forgetMem s m
  | wrImask => exact inSeq_forgetMem s m rfl
  | wrReqq => exact execWrReqq_forgetMem s m
  | wrRepq => exact inSeq_forgetMem s m rfl
  | rdRepq => exact execRdRepq_forgetMem s m
  | memwrFrame => exact inSeq_forgetMem s m (buildFrame_forgetMem s m)
  | delay => exact inSeq_forgetMem s m rfl
  | ret r => exact execRet_forgetMem s m r
  | tokCompletion => exact tokenRow_forgetMem s m .completion
  | tokSpuriousZero => exact tokenRow_forgetMem s m .spurious
  | tokSpuriousAlias _ => exact tokenRow_forgetMem s m .spurious
  | tokDrained => exact tokenRow_forgetMem s m .drained
  | tokOther _ => exact tokenRow_forgetMem s m .other

theorem stepWithoutInstr_forgetMem :
    (stepWithoutInstr (s.withMem m)).forgetMem = (stepWithoutInstr s).forgetMem := by
  simp only [stepWithoutInstr, withMem_st]
  split
  · rw [exCheck_withMem]; rfl
  · rfl
  · rfl
  · rfl

theorem engineStep_forgetMem : (engineStep (s.withMem m)).forgetMem = (engineStep s).forgetMem := by
  have hnext : nextInstr (s.withMem m) = nextInstr s := rfl
  rw [engineStep, engineStep, hnext, afterFetch_withMem]
  split
  · exact exec_forgetMem (afterFetch s) m _
  · exact stepWithoutInstr_forgetMem s m

end

/-- Settles O49: both states have no turns, so both steps are the engine's. -/
theorem engineIgnoresMemory : Obligations.EngineIgnoresMemory := by
  intro s m hturns
  rw [step_of_no_turns s hturns, step_of_no_turns (s.withMem m) hturns]
  exact (engineStep_forgetMem s m).symm

end Sys2Proof.Machine

/-! ## The invariant (`Machine.Inv`)

The invariant is put as what holds in every state, `Always`, and what holds in one sequencing state, `AtState`: a step then has
to establish `AtState` of the one state it goes to. -/

namespace Sys2Proof.Machine

/-! ### The invariant, state by state -/

/-- The part of the invariant that speaks of every sequencing state. -/
structure Always (s : State) : Prop where
  memCanonical : s.mem.wf = true
  storeLength : s.iocReply.length = s.cfg.replyHalfwords
  faultRecorded : s.st = .fault ↔ s.fault.isSome = true
  markInTrace : s.execMark ≤ s.trace.length

/-- What a result says of the EXEC that ends with it (R243, R222). -/
def ResultFits (s : State) : Option Status → Prop
  | none => False
  | some .notReady => s.latch.lun ≠ 0 ∧ s.submissions = 0
  | some .success => s.latch.lun = 0 ∧ s.submissions = postedCount s.retried
  | some .badTrack => s.latch.lun = 0 ∧ s.retried = true ∧ s.submissions = 2

/-- The part of the invariant that speaks of the sequencing state `q`. -/
def AtState (s : State) : Seq → Prop
  | .idle | .fault => True
  | .buReset | .buImask | .buIclr1 | .buHscmd | .buIclr2 | .buPublish => iobaseOk s.latch.iobase = true
  | .buSend => iobaseOk s.latch.iobase = true ∧ s.idx < iocInitReqWords
  | .buRecv => iobaseOk s.latch.iobase = true ∧ s.idx < s.cfg.replyHalfwords
  | .exCheck => s.result = none ∧ s.submissions = 0 ∧ s.retried = false
  | .exBuild | .exPost => inputsOk s.latch = true ∧ s.result = none ∧ s.submissions = 0 ∧ s.retried = false
  | .exStatus | .exBackoff | .exDrain =>
    inputsOk s.latch = true ∧ s.result = none ∧ s.submissions = postedCount s.retried
  | .exResubmit => inputsOk s.latch = true ∧ s.result = none ∧ s.submissions = 1 ∧ s.retried = true
  | .exDone => ResultFits s s.result

section
variable {s t : State}

theorem Inv.always (h : Inv s) : Always s := ⟨h.memCanonical, h.storeLength, h.faultRecorded, h.markInTrace⟩

theorem Inv.resultFits (h : Inv s) (hst : s.st = .exDone) : ResultFits s s.result := by
  have hready := h.resultReady hst
  cases hres : s.result with
  | none => rw [hres] at hready; cases hready
  | some r =>
    cases r with
    | success => exact h.doneSuccess hst hres
    | notReady => exact h.doneNotReady hst hres
    | badTrack => exact h.doneBadTrack hst hres

theorem Inv.atState (h : Inv s) : AtState s s.st := by
  have haligned := h.bringupAligned
  have hchecks := h.checksHold
  have hnone := h.noResultYet
  have hbefore := h.beforePost
  have hpolling := h.polling
  cases hst : s.st with
  | idle | fault => trivial
  | buReset | buImask | buIclr1 | buHscmd | buIclr2 | buPublish => exact haligned (by rw [hst]; rfl)
  | buSend => exact ⟨haligned (by rw [hst]; rfl), h.sendIndex hst⟩
  | buRecv => exact ⟨haligned (by rw [hst]; rfl), h.recvIndex hst⟩
  | exCheck => exact ⟨hnone (.inl hst), hbefore (.inl hst)⟩
  | exBuild => exact ⟨hchecks (by rw [hst]; rfl), hnone (.inr (by rw [hst]; rfl)), hbefore (.inr (.inl hst))⟩
  | exPost => exact ⟨hchecks (by rw [hst]; rfl), hnone (.inr (by rw [hst]; rfl)), hbefore (.inr (.inr hst))⟩
  | exStatus | exBackoff | exDrain =>
    exact ⟨hchecks (by rw [hst]; rfl), hnone (.inr (by rw [hst]; rfl)), hpolling (by rw [hst]; rfl)⟩
  | exResubmit => exact ⟨hchecks (by rw [hst]; rfl), hnone (.inr (by rw [hst]; rfl)), h.resubmitting hst⟩
  | exDone => exact h.resultFits hst

theorem AtState.aligned {q : Seq} (h : AtState s q) (hq : q.inBringup = true) : iobaseOk s.latch.iobase = true := by
  cases q with
  | buReset | buImask | buIclr1 | buHscmd | buIclr2 | buPublish => exact h
  | buSend | buRecv => exact h.1
  | _ => cases hq

theorem AtState.pastChecks {q : Seq} (h : AtState s q) (hq : q.pastChecks = true) :
    inputsOk s.latch = true ∧ s.result = none := by
  cases q with
  | exBuild | exPost | exStatus | exBackoff | exDrain | exResubmit => exact ⟨h.1, h.2.1⟩
  | _ => cases hq

theorem AtState.polling {q : Seq} (h : AtState s q) (hq : q.polling = true) :
    s.submissions = postedCount s.retried := by
  cases q with
  | exStatus | exBackoff | exDrain => exact h.2.2
  | _ => cases hq

theorem AtState.beforePost {q : Seq} (h : AtState s q) (hq : q = .exCheck ∨ q = .exBuild ∨ q = .exPost) :
    s.submissions = 0 ∧ s.retried = false := by
  rcases hq with rfl | rfl | rfl
  · exact h.2
  · exact h.2.2
  · exact h.2.2

/-- The two parts make up the invariant. -/
theorem Inv.of_parts (halways : Always s) (h : AtState s s.st) : Inv s where
  memCanonical := halways.memCanonical
  storeLength := halways.storeLength
  sendIndex hst := by rw [hst] at h; exact h.2
  recvIndex hst := by rw [hst] at h; exact h.2
  faultRecorded := halways.faultRecorded
  bringupAligned := h.aligned
  checksHold hq := (h.pastChecks hq).1
  noResultYet hq := by
    rcases hq with hst | hq
    · rw [hst] at h; exact h.1
    · exact (h.pastChecks hq).2
  resultReady hst := by
    rw [hst] at h
    cases hres : s.result with
    | none => rw [AtState, hres] at h; exact h.elim
    | some r => rfl
  markInTrace := halways.markInTrace
  beforePost := h.beforePost
  polling := h.polling
  resubmitting hst := by rw [hst] at h; exact h.2.2
  doneNotReady hst hres := by rw [hst, AtState, hres] at h; exact h
  doneSuccess hst hres := by rw [hst, AtState, hres] at h; exact h
  doneBadTrack hst hres := by rw [hst, AtState, hres] at h; exact h

theorem Inv.of_parts_at {q : Seq} (halways : Always s) (hst : s.st = q) (h : AtState s q) : Inv s :=
  .of_parts halways (hst ▸ h)

/-- The state part reads these six elements only. -/
theorem AtState.congr {q : Seq} (hcfg : t.cfg = s.cfg) (hlatch : t.latch = s.latch) (hidx : t.idx = s.idx)
    (hretried : t.retried = s.retried) (hresult : t.result = s.result) (hsub : t.submissions = s.submissions)
    (h : AtState s q) : AtState t q := by
  cases q with
  | exDone =>
    rw [AtState, hresult] at *
    unfold ResultFits at *
    rw [hlatch, hretried, hsub]
    exact h
  | idle | fault => trivial
  | _ => simpa only [AtState, hcfg, hlatch, hidx, hretried, hresult, hsub] using h

end

/-! ### What the operations keep of it -/

section
variable {s : State}

theorem Always.emit (h : Always s) (e : Event) : Always (s.emit e) :=
  ⟨h.memCanonical, h.storeLength, h.faultRecorded, Nat.le_trans h.markInTrace (by simp)⟩

theorem Always.goto (h : Always s) {q : Seq} (hst : s.st ≠ .fault) (hq : q ≠ .fault) : Always (s.goto q) :=
  ⟨h.memCanonical, h.storeLength, iff_of_false hq (mt h.faultRecorded.mpr hst), h.markInTrace⟩

theorem Always.setIdx (h : Always s) (k : Nat) : Always (s.setIdx k) :=
  ⟨h.memCanonical, h.storeLength, h.faultRecorded, h.markInTrace⟩

theorem Always.memWrite (h : Always s) {addr : Word} {bytes : List Byte} (hroom : addr.toNat + bytes.length ≤ 2 ^ 32) :
    Always (memWrite addr bytes s) :=
  ⟨Memory.writeBytes_wf bytes s.mem addr.toNat h.memCanonical hroom, h.storeLength, h.faultRecorded,
    Nat.le_trans h.markInTrace (by simp)⟩

theorem Always.raise (h : Always s) (r : ModelFault) : Always (raise r s) :=
  ⟨h.memCanonical, h.storeLength, iff_of_true rfl rfl, h.markInTrace⟩

theorem Always.finish (h : Always s) (hst : s.st ≠ .fault) (r : Status) : Always (finish r s) :=
  ⟨h.memCanonical, h.storeLength, iff_of_false nofun (mt h.faultRecorded.mpr hst), h.markInTrace⟩

theorem Always.hostReturn (h : Always s) (hst : s.st ≠ .fault) (r : Status) : Always (hostReturn r s) :=
  ⟨h.memCanonical, h.storeLength, iff_of_false nofun (mt h.faultRecorded.mpr hst), h.markInTrace⟩

theorem Always.latchBringup (h : Always s) (iobase : Word) : Always (latchBringup iobase s) :=
  ⟨h.memCanonical, h.storeLength, h.faultRecorded, h.markInTrace⟩

theorem Always.acceptExec (h : Always s) (hst : s.st ≠ .fault) (a : ExecInputs) : Always (acceptExec a s) :=
  ⟨h.memCanonical, h.storeLength, iff_of_false nofun (mt h.faultRecorded.mpr hst), Nat.le_refl _⟩

theorem Always.resubmit (h : Always s) (hst : s.st ≠ .fault) :
    Always { s with retried := true, st := .exResubmit } :=
  ⟨h.memCanonical, h.storeLength, iff_of_false nofun (mt h.faultRecorded.mpr hst), h.markInTrace⟩

theorem recvHalfword_of_more {v : Word} (hmore : s.idx + 1 < s.cfg.replyHalfwords) : recvHalfword v s =
    { s with iocReply := s.iocReply.set s.idx (v.extractLsb' 0 16), idx := s.idx + 1 } := if_pos hmore

theorem recvHalfword_of_last {v : Word} (hlast : ¬ s.idx + 1 < s.cfg.replyHalfwords) : recvHalfword v s =
    { s with iocReply := s.iocReply.set s.idx (v.extractLsb' 0 16), replyFilled := true, st := .buIclr2 } := if_neg hlast

theorem Always.recvHalfword (h : Always s) (hst : s.st ≠ .fault) (v : Word) : Always (recvHalfword v s) := by
  have hlen : (s.iocReply.set s.idx (v.extractLsb' 0 16)).length = s.cfg.replyHalfwords :=
    (List.length_set ..).trans h.storeLength
  unfold Machine.recvHalfword
  split
  · exact ⟨h.memCanonical, hlen, h.faultRecorded, h.markInTrace⟩
  · exact ⟨h.memCanonical, hlen, iff_of_false nofun (mt h.faultRecorded.mpr hst), h.markInTrace⟩

/-- The invariant does not read the ports, the answers and the turns. -/
theorem Inv.withPorts (h : Inv s) (port : List HostReq) (hostOut : List HostOut) (d i r : Answers) (turns : List Turn) :
    Inv { s with
      port := port, hostOut := hostOut, doorbellAns := d, istatusAns := i, repqAns := r, turns := turns } :=
  .of_parts ⟨h.memCanonical, h.storeLength, h.faultRecorded, h.markInTrace⟩
    (AtState.congr (s := s) rfl rfl rfl rfl rfl rfl h.atState)

theorem Inv.setAnswers (h : Inv s) (p : ReadPort) (a : Answers) : Inv (s.setAnswers p a) := by
  cases p with
  | doorbell => exact h.withPorts s.port s.hostOut a s.istatusAns s.repqAns s.turns
  | istatus => exact h.withPorts s.port s.hostOut s.doorbellAns a s.repqAns s.turns
  | repq => exact h.withPorts s.port s.hostOut s.doorbellAns s.istatusAns a s.turns

theorem Inv.withMem (h : Inv s) {m : Memory} (hm : m.wf = true) : Inv (s.withMem m) :=
  .of_parts ⟨hm, h.storeLength, h.faultRecorded, h.markInTrace⟩ (AtState.congr (s := s) rfl rfl rfl rfl rfl rfl h.atState)

theorem Inv.raise (h : Inv s) (r : ModelFault) : Inv (raise r s) := .of_parts (h.always.raise r) trivial

theorem Inv.goto (h : Inv s) {q : Seq} (hst : s.st ≠ .fault) (hq : q ≠ .fault) (hat : AtState s q) : Inv (s.goto q) :=
  .of_parts (h.always.goto hst hq) (AtState.congr (s := s) rfl rfl rfl rfl rfl rfl hat)

/-! ### Submissions -/

theorem submissions_emit (hmark : s.execMark ≤ s.trace.length) (e : Event) :
    (s.emit e).submissions = s.submissions + if e.isPost (regAddr s offReqq) then 1 else 0 :=
  submissions_of_entry s (s.emit e) e hmark rfl rfl rfl

theorem submissions_emit_of_not_post (hmark : s.execMark ≤ s.trace.length) {e : Event}
    (he : e.isPost (regAddr s offReqq) = false) : (s.emit e).submissions = s.submissions := by
  rw [submissions_emit hmark, he]
  rfl

/-- A write to Request-Queue is one submission more. -/
theorem submissions_post (hmark : s.execMark ≤ s.trace.length) (v : Word) :
    (regWrite offReqq v s).submissions = s.submissions + 1 := by
  have hpost : (Event.wr32 (regAddr s offReqq) v).isPost (regAddr s offReqq) = true := decide_eq_true rfl
  rw [regWrite, submissions_emit hmark, hpost]
  rfl

/-- At its acceptance an EXEC has made no submission. -/
theorem submissions_acceptExec (a : ExecInputs) : (acceptExec a s).submissions = 0 := by
  simp [State.submissions]

/-- An entry that is no post keeps the invariant. -/
theorem Inv.emit_of_not_post (h : Inv s) {e : Event} (he : e.isPost (regAddr s offReqq) = false) : Inv (s.emit e) :=
  .of_parts (h.always.emit e)
    (AtState.congr (s := s) rfl rfl rfl rfl rfl (submissions_emit_of_not_post h.markInTrace he) h.atState)

theorem Inv.afterRead (h : Inv s) (p : ReadPort) (v : Word) (a : Answers) : Inv (afterRead p v a s) :=
  (h.setAnswers p a).emit_of_not_post rfl

/-! ### The instructions -/

theorem inputsOk_lun {a : ExecInputs} (h : inputsOk a = true) : a.lun = 0 := by
  simp only [inputsOk, Bool.and_eq_true, decide_eq_true_eq] at h
  exact h.1.1.1

/-- A token keeps the invariant: in the drain one submission is made, and one more once the poll has retried. -/
theorem Inv.tokenEffect (h : Inv s) (hst : s.st = .exDrain) (k : TokClass) : Inv (tokenEffect k s) := by
  have hne : s.st ≠ .fault := by simp [hst]
  have hat := h.atState
  rw [hst] at hat
  obtain ⟨hchecks, hres, hsub⟩ := hat
  have hlun := inputsOk_lun hchecks
  cases k with
  | completion => exact .of_parts (h.always.finish hne .success) ⟨hlun, hsub⟩
  | spurious =>
    cases hretried : s.retried with
    | true =>
      rw [tokenEffect_spurious_of_retried hretried]
      rw [hretried] at hsub
      exact .of_parts (h.always.finish hne .badTrack) ⟨hlun, hretried, hsub⟩
    | false =>
      rw [tokenEffect_spurious_of_first hretried]
      rw [hretried] at hsub
      exact .of_parts (h.always.resubmit hne) ⟨hchecks, hres, hsub, rfl⟩
  | drained => exact h.goto hne nofun ⟨hchecks, hres, hsub⟩
  | other => exact h.goto hne nofun ⟨hchecks, hres, hsub⟩

/-- A reply halfword keeps the invariant: the index stays below the number of halfwords. -/
theorem Inv.recvHalfword (h : Inv s) (hst : s.st = .buRecv) (v : Word) : Inv (recvHalfword v s) := by
  have hat := h.atState
  rw [hst] at hat
  obtain ⟨haligned, hidx⟩ := hat
  have halways := h.always.recvHalfword (by simp [hst]) v
  by_cases hmore : s.idx + 1 < s.cfg.replyHalfwords
  · rw [recvHalfword_of_more hmore] at halways ⊢
    exact .of_parts_at halways hst ⟨haligned, hmore⟩
  · rw [recvHalfword_of_last hmore] at halways ⊢
    exact .of_parts halways haligned

/-- Every next state of an instruction meets the invariant. -/
theorem Inv.effect {t : State} {i : Instr} (h : Inv s) (he : Effect s i t) : Inv t := by
  have halways := h.always
  have hat := h.atState
  cases he with
  | bringup hst hok => exact .of_parts ((halways.latchBringup _).goto (by simp [hst]) nofun) hok
  | misaligned hst => exact .of_parts ((halways.latchBringup _).raise _) trivial
  | accept hst => exact .of_parts (halways.acceptExec (by simp [hst]) _) ⟨rfl, submissions_acceptExec _, rfl⟩
  | resetWord _ hst | mask hst | clearFirst hst | clearSecond hst =>
    rw [hst] at hat
    exact .of_parts ((halways.emit _).goto (by simp [hst]) nofun) hat
  | handshake _ hst =>
    rw [hst] at hat
    exact .of_parts (((halways.emit _).setIdx 0).goto (by simp [hst]) nofun) ⟨hat, Nat.zero_lt_succ 6⟩
  | requestWord _ hst hmore =>
    rw [hst] at hat
    exact .of_parts_at ((halways.emit _).setIdx _) hst ⟨hat.1, hmore⟩
  | lastWord _ hst =>
    rw [hst] at hat
    exact .of_parts (((halways.emit _).setIdx 0).goto (by simp [hst]) nofun) ⟨hat.1, Config.replyHalfwords_pos _⟩
  | halfword hst => exact (h.afterRead _ _ _).recvHalfword (by simp [hst]) _
  | publish hst => exact .of_parts ((halways.emit _).goto (by simp [hst]) nofun) trivial
  | frame _ hst hroom =>
    rw [hst] at hat
    obtain ⟨hchecks, hres, hsub, hretried⟩ := hat
    have hwritten : Always (memWrite s.latch.frameAddr (encodeFrame s.cfg s.latch) s) :=
      halways.memWrite (by rwa [encodeFrame_length])
    have hsame := submissions_emit_of_not_post (s := s) halways.markInTrace
      (e := .memwr s.latch.frameAddr (encodeFrame s.cfg s.latch)) rfl
    exact .of_parts (hwritten.goto (by simp [hst]) nofun) ⟨hchecks, hres, hsame.trans hsub, hretried⟩
  | post hst =>
    rw [hst] at hat
    obtain ⟨hchecks, hres, hsub, hretried⟩ := hat
    have hposted : (regWrite offReqq s.latch.frameAddr s).submissions = postedCount s.retried := by
      rw [submissions_post halways.markInTrace, hsub, hretried]
      rfl
    exact .of_parts ((halways.emit _).goto (by simp [hst]) nofun) ⟨hchecks, hres, hposted⟩
  | resubmit hst =>
    rw [hst] at hat
    obtain ⟨hchecks, hres, hsub, hretried⟩ := hat
    have hposted : (regWrite offReqq s.latch.frameAddr s).submissions = postedCount s.retried := by
      rw [submissions_post halways.markInTrace, hsub, hretried]
      rfl
    exact .of_parts ((halways.emit _).goto (by simp [hst]) nofun) ⟨hchecks, hres, hposted⟩
  | @status v a hst =>
    have hread := h.afterRead .istatus v a
    have hst' : (Machine.afterRead .istatus v a s).st = .exStatus := by simp [hst]
    have hpoll := hread.atState
    rw [hst'] at hpoll
    split
    · exact hread.goto (by simp [hst]) nofun hpoll
    · exact hread.goto (by simp [hst]) nofun hpoll
  | backoff hst =>
    have hdelay := h.emit_of_not_post (e := .delay) rfl
    have hpoll := hdelay.atState
    rw [emit_st, hst] at hpoll
    exact hdelay.goto (by simp [hst]) nofun hpoll
  | token hst => exact (h.afterRead _ _ _).tokenEffect (by simp [hst]) _
  | tokenRow _ hst => exact h.tokenEffect hst _
  | ret hst => exact .of_parts (halways.hostReturn (by simp [hst]) _) trivial
  | wait => exact h

/-- The checks keep the invariant: they all hold when the frame is built next. -/
theorem Inv.exCheck (h : Inv s) (hst : s.st = .exCheck) : Inv (exCheck s) := by
  have hne : s.st ≠ .fault := by simp [hst]
  have hat := h.atState
  rw [hst] at hat
  obtain ⟨hres, hsub, hretried⟩ := hat
  unfold Machine.exCheck
  split_ifs with hlun hiobase hframe hlen
  · exact .of_parts (h.always.finish hne .notReady) ⟨hlun, hsub⟩
  · exact h.raise .badIobase
  · exact h.raise .badFrameAddr
  · exact h.raise .lengthOverflow
  · have hchecks : inputsOk s.latch = true := by
      simp only [Bool.not_eq_false] at hiobase hframe hlen
      simp only [inputsOk, not_not.mp hlun, hiobase, hframe, hlen]
      rfl
    exact h.goto hne nofun ⟨hchecks, hres, hsub, hretried⟩

theorem Inv.engineStep {t : State} (h : Inv s) (hstep : engineStep s = .next t) : Inv t := by
  rcases engineStep_cases hstep with ⟨i, -, hexec⟩ | ⟨hst, rfl⟩ | rfl
  · have hfetch : Inv (afterFetch s) := by
      unfold afterFetch
      split
      · exact h.withPorts s.port.tail s.hostOut s.doorbellAns s.istatusAns s.repqAns s.turns
      · exact h
    exact hfetch.effect (exec_effect hexec)
  · exact h.exCheck hst
  · exact h

/-! ### Reset -/

/-- Engine reset makes the invariant true, whatever else held; only memory has to be canonical. -/
theorem inv_engineReset (hmem : s.mem.wf = true) : Inv (engineReset s) :=
  .of_parts ⟨hmem, List.length_replicate, iff_of_false nofun nofun, Nat.le_refl 0⟩ trivial

/-- Settles O51: the reset state is an engine reset of itself. -/
theorem resetMeetsInvariant : Obligations.ResetMeetsInvariant := by
  have hreset : ∀ c : Config, Inv (State.resetOf c) := fun c =>
    inv_engineReset (s := State.resetOf c) Memory.wf_nil
  exact ⟨hreset Config.machine, hreset⟩

theorem Inv.observeStore (h : Inv s) : Inv (observeStore s) := by
  rcases observeStore_cases s with ⟨out, hobs⟩ | ⟨-, hobs⟩ <;> rw [hobs]
  · exact h.withPorts s.port out s.doorbellAns s.istatusAns s.repqAns s.turns
  · exact h.raise _

/-- Settles O52: the engine keeps it instruction by instruction, the other agents write ports and memory, and reset makes it
true. -/
theorem stepKeepsInvariant : Obligations.StepKeepsInvariant := by
  intro s t h hstep
  have hturns (ts : List Turn) : Inv { s with turns := ts } :=
    h.withPorts s.port s.hostOut s.doorbellAns s.istatusAns s.repqAns ts
  rcases step_cases hstep with ⟨ts, hengine⟩ | ⟨u, rest, -, hu, hturn⟩
  · exact (hturns ts).engineStep hengine
  have hs := hturns rest
  cases u with
  | engine => exact absurd rfl hu
  | hostPresents r =>
    cases hturn
    exact h.withPorts (s.port ++ [r]) s.hostOut s.doorbellAns s.istatusAns s.repqAns rest
  | hostObserves => cases hturn; exact hs.observeStore
  | hostWrites addr b | controllerWrites addr b =>
    cases hturn
    exact hs.withMem (Memory.write_wf s.mem addr.toNat b h.memCanonical addr.isLt)
  | controllerAnswers p v => cases hturn; exact hs.setAnswers p _
  | platformResets => cases hturn; exact inv_engineReset hs.memCanonical

/-! ### Runs -/

theorem run_succ (k : Nat) {s t : State} (h : step s = .next t) : run (k + 1) s = run k t := by
  have hcore : Sys2Proof.core.step s = .next t := h
  simp only [run, Host.Core.run, hcore]
  rfl

theorem run_succ_next {k : Nat} {t : State} (h : run (k + 1) s = .next t) :
    ∃ s', step s = .next s' ∧ run k s' = .next t := by
  cases hstep : step s with
  | next s' => exact ⟨s', rfl, run_succ k hstep ▸ h⟩
  | fault r =>
    have hcore : Sys2Proof.core.step s = .fault r := hstep
    simp only [run, Host.Core.run, hcore] at h
    cases h
  | refused r =>
    have hcore : Sys2Proof.core.step s = .refused r := hstep
    simp only [run, Host.Core.run, hcore] at h
    cases h

/-- The invariant holds along a run of any length. -/
theorem Inv.run {k : Nat} {t : State} (h : Inv s) (hrun : run k s = .next t) : Inv t := by
  induction k generalizing s with
  | zero => cases hrun; exact h
  | succ k ih =>
    obtain ⟨s', hstep, hrun'⟩ := run_succ_next hrun
    exact ih (stepKeepsInvariant s s' h hstep) hrun'

theorem postedCount_le_two (retried : Bool) : postedCount retried ≤ 2 := by
  cases retried <;> decide

theorem ResultFits.submissions_le_two {r : Option Status} (h : ResultFits s r) : s.submissions ≤ 2 := by
  match r, h with
  | some .notReady, h => exact h.2.trans_le (Nat.zero_le 2)
  | some .success, h => exact h.2.trans_le (postedCount_le_two s.retried)
  | some .badTrack, h => exact h.2.2.le

theorem AtState.submissions_le_two {q : Seq} (h : AtState s q)
    (hq : q = .exCheck ∨ q.pastChecks = true ∨ q = .exDone) : s.submissions ≤ 2 := by
  cases q with
  | exCheck => exact h.2.1.trans_le (Nat.zero_le 2)
  | exBuild | exPost => exact h.2.2.1.trans_le (Nat.zero_le 2)
  | exStatus | exBackoff | exDrain => exact h.2.2.trans_le (postedCount_le_two s.retried)
  | exResubmit => exact h.2.2.1.trans_le one_le_two
  | exDone => exact ResultFits.submissions_le_two h
  | _ => simp [Seq.pastChecks] at hq

/-- Settles O53: the invariant holds along the run, and in each state of an EXEC it bounds the submissions. -/
theorem noThirdSubmission : Obligations.NoThirdSubmission := by
  intro k s t h hrun hst
  exact (h.run hrun).atState.submissions_le_two hst

end

end Sys2Proof.Machine

/-! ## Whole operations (40_doorbell R161, 42_reply §3, 70_reset §4)

With no turns scheduled each sequencing state has one equation for its step; a run is put together from these. -/

namespace Sys2Proof.Machine

section
variable {s : State} (hturns : s.turns = [])
include hturns

/-! ### The step of each state of an EXEC -/

theorem step_accept {a : ExecInputs} {rest : List HostReq} (hst : s.st = .idle) (hport : s.port = execReq a :: rest) :
    step s = .next (acceptExec a { s with port := rest }) :=
  (step_of_presented hturns hst hport).trans (execAccepted { s with port := rest } a hst)

theorem step_exBuild (hst : s.st = .exBuild) (hroom : s.latch.frameAddr.toNat + 56 ≤ 2 ^ 32) :
    step s = .next ((memWrite s.latch.frameAddr (encodeFrame s.cfg s.latch) s).goto .exPost) := by
  rw [step_of_busy hturns (by simp [hst]) (i := .memwrFrame) (by rw [nextInstr, hst])]
  exact (inSeq_of_eq _ _ _ hst).trans (buildFrame_of_room hroom)

theorem step_exPost (hst : s.st = .exPost) :
    step s = .next ((regWrite offReqq s.latch.frameAddr s).goto .exStatus) := by
  rw [step_of_busy hturns (by simp [hst]) (i := .wrReqq) (by rw [nextInstr, hst])]
  exact requestPosted s hst

theorem step_exStatus {v : Word} {a : Answers} (hst : s.st = .exStatus) (htake : s.istatusAns.take .istatus = some (v, a)) :
    step s = .next ((afterRead .istatus v a s).goto (if rpl v then .exDrain else .exBackoff)) := by
  rw [step_of_busy hturns (by simp [hst]) (i := .rdIstatus) (by rw [nextInstr, hst])]
  exact execRdIstatus_of_answer hst htake

theorem step_exBackoff (hst : s.st = .exBackoff) : step s = .next ((s.emit .delay).goto .exStatus) := by
  rw [step_of_busy hturns (by simp [hst]) (i := .delay) (by rw [nextInstr, hst])]
  exact backoffRecorded s hst

theorem step_exDrain {v : Word} {a : Answers} (hst : s.st = .exDrain) (htake : s.repqAns.take .repq = some (v, a)) :
    step s = .next (tokenEffect (classify s.cfg v) (afterRead .repq v a s)) := by
  rw [step_of_busy hturns (by simp [hst]) (i := .rdRepq) (by rw [nextInstr, hst])]
  exact execRdRepq_of_answer hst htake

theorem step_exResubmit (hst : s.st = .exResubmit) :
    step s = .next ((regWrite offReqq s.latch.frameAddr s).goto .exDrain) := by
  rw [step_of_busy hturns (by simp [hst]) (i := .wrReqq) (by rw [nextInstr, hst])]
  exact requestResubmitted s hst

theorem step_exDone {r : Status} (hst : s.st = .exDone) (hres : s.result = some r) :
    step s = .next (hostReturn r s) := by
  rw [step_of_busy hturns (by simp [hst]) (i := .ret r) (by simp [nextInstr_of_exDone hst, hres])]
  exact resultReturned s r hst hres

end

/-! ### EXEC -/

/-- Settles O55: acceptance, the LUN check, the return. -/
theorem rejectedLunTouchesNothing : Obligations.RejectedLunTouchesNothing := by
  intro s a rest hturns hst hport hlun
  let s1 := acceptExec a { s with port := rest }
  let s2 := finish .notReady s1
  have h1 : step s = .next s1 := step_accept hturns hst hport
  have h2 : step s1 = .next s2 :=
    (step_of_exCheck (s := s1) hturns rfl).trans (congrArg _ (exCheck_of_lun_ne_zero (s := s1) hlun))
  have h3 : step s2 = .next (hostReturn .notReady s2) := step_exDone (s := s2) hturns rfl rfl
  have hrun : run 3 s = .next (hostReturn .notReady s2) :=
    (run_succ 2 h1).trans ((run_succ 1 h2).trans (run_succ 0 h3))
  exact ⟨_, hrun, rfl, rfl, rfl, rfl, rfl, rfl⟩

/-- Inputs that meet every check go on to the frame. -/
theorem exCheck_of_inputsOk {s : State} (h : inputsOk s.latch = true) : exCheck s = s.goto .exBuild := by
  simp only [inputsOk, Bool.and_eq_true, decide_eq_true_eq] at h
  obtain ⟨⟨⟨hlun, hiobase⟩, hframe⟩, hlen⟩ := h
  simp [exCheck, hlun, hiobase, hframe, hlen]

theorem frame_room_of_inputsOk {a : ExecInputs} (h : inputsOk a = true) : a.frameAddr.toNat + 56 ≤ 2 ^ 32 := by
  simp only [inputsOk, frameAddrOk, Bool.and_eq_true, decide_eq_true_eq] at h
  omega

/-- Settles O56: acceptance, checks, frame, post, one poll, one token, the return. -/
theorem fastestSuccess : Obligations.FastestSuccess := by
  intro s a rest v is rs hturns hst hport hok his hrpl hrs
  have hrpl' : rpl v = true := hrpl
  have hmagic (c : Config) : classify c 0xAAAA5555 = .completion := if_pos rfl
  have htakeI := Answers.take_ready .istatus s.istatusAns v is his
  have htakeR := Answers.take_ready .repq s.repqAns 0xAAAA5555 rs hrs
  let s1 := acceptExec a { s with port := rest }
  let s3 := (memWrite a.frameAddr (encodeFrame s.cfg a) (s1.goto .exBuild)).goto .exPost
  let s4 := (regWrite offReqq a.frameAddr s3).goto .exStatus
  let s5 := (afterRead .istatus v { s.istatusAns with ready := is } s4).goto .exDrain
  let s6 := finish .success (afterRead .repq 0xAAAA5555 { s.repqAns with ready := rs } s5)
  have h1 : step s = .next s1 := step_accept hturns hst hport
  have h2 : step s1 = .next (s1.goto .exBuild) :=
    (step_of_exCheck (s := s1) hturns rfl).trans (congrArg _ (exCheck_of_inputsOk (s := s1) hok))
  have h3 : step (s1.goto .exBuild) = .next s3 := step_exBuild (s := s1.goto .exBuild) hturns rfl (frame_room_of_inputsOk hok)
  have h4 : step s3 = .next s4 := step_exPost (s := s3) hturns rfl
  have h5 : step s4 = .next s5 := by
    rw [step_exStatus (s := s4) hturns rfl htakeI, if_pos hrpl']
  have h6 : step s5 = .next s6 := by
    rw [step_exDrain (s := s5) hturns rfl htakeR, hmagic]
    rfl
  have h7 : step s6 = .next (hostReturn .success s6) := step_exDone (s := s6) hturns rfl rfl
  have hrun : run 7 s = .next (hostReturn .success s6) := by
    rw [run_succ 6 h1, run_succ 5 h2, run_succ 4 h3, run_succ 3 h4, run_succ 2 h5, run_succ 1 h6, run_succ 0 h7]
    rfl
  have htrace : (hostReturn .success s6).trace = s.trace ++
      [Event.memwr a.frameAddr (encodeFrame s.cfg a), Event.wr32 (a.iobase + 0x40) a.frameAddr, Event.rd32 (a.iobase + 0x30) v,
        Event.rd32 (a.iobase + 0x44) 0xAAAA5555] := by
    have happ : (hostReturn .success s6).trace = s.trace ++ [Event.memwr a.frameAddr (encodeFrame s.cfg a)]
      ++ [Event.wr32 (a.iobase + 0x40) a.frameAddr] ++ [Event.rd32 (a.iobase + 0x30) v]
      ++ [Event.rd32 (a.iobase + 0x44) 0xAAAA5555] := rfl
    simpa using happ
  refine ⟨_, hrun, rfl, rfl, rfl, htrace, rfl, ?_, rfl⟩
  have hmark : (hostReturn .success s6).execMark = s.trace.length := rfl
  have haddr : regAddr (hostReturn .success s6) offReqq = a.iobase + 0x40 := rfl
  rw [State.submissions, htrace, hmark, haddr, List.drop_left]
  simp [Event.isPost]

/-! ### The poll -/

/-- Once retried, a completion and a spurious token both end the poll. -/
theorem tokenEffect_of_retried {c : Config} {w : Word} {s : State} (hretried : s.retried = true)
    (hw : w = 0xAAAA5555 ∨ w = 0 ∨ w <<< 1 = c.replyBufAddr) :
    tokenEffect (classify c w) s = finish (if w = 0xAAAA5555 then .success else .badTrack) s := by
  obtain ⟨hcompletion, hspurious, -, -⟩ := classesAreTheirPatterns c w
  by_cases hmagic : w = 0xAAAA5555
  · rw [hcompletion.mpr hmagic, if_pos hmagic]
    rfl
  · rw [hspurious.mpr (hw.resolve_left hmagic), if_neg hmagic, tokenEffect_spurious_of_retried hretried]

/-- Settles O57: the first spurious token goes to the resubmission; the second ends the poll, as a completion does. -/
theorem oneResubmissionThenResult : Obligations.OneResubmissionThenResult := by
  intro s v w rs hturns hst hretried hready hv hw
  let s1 := afterRead .repq v { s.repqAns with ready := w :: rs } s
  let s2 : State := { s1 with retried := true, st := .exResubmit }
  let s3 := (regWrite offReqq s.latch.frameAddr s2).goto .exDrain
  let s4 := afterRead .repq w { s.repqAns with ready := rs } s3
  let r : Status := if w = 0xAAAA5555 then .success else .badTrack
  have hspurious := (classesAreTheirPatterns s.cfg v).2.1.mpr hv
  have h1 : step s = .next s2 := by
    rw [step_exDrain hturns hst (Answers.take_ready .repq s.repqAns v (w :: rs) hready), hspurious]
    exact congrArg _ (tokenEffect_spurious_of_first (s := s1) hretried)
  have h2 : step s2 = .next s3 := step_exResubmit (s := s2) hturns rfl
  have h3 : step s3 = .next (finish r s4) :=
    (step_exDrain (s := s3) hturns rfl (Answers.take_ready .repq s3.repqAns w rs rfl)).trans
      (congrArg _ (tokenEffect_of_retried (s := s4) rfl hw))
  have hrun : run 3 s = .next (finish r s4) := (run_succ 2 h1).trans ((run_succ 1 h2).trans (run_succ 0 h3))
  have happ : (finish r s4).trace = s.trace ++ [Event.rd32 (s.latch.iobase + 0x44) v]
    ++ [Event.wr32 (s.latch.iobase + 0x40) s.latch.frameAddr] ++ [Event.rd32 (s.latch.iobase + 0x44) w] := rfl
  exact ⟨_, hrun, rfl, rfl, rfl, by simpa using happ, rfl, rfl⟩

/-- A token of no named class is read and discarded. -/
theorem step_other {s : State} {v : Word} {rest : List Word} (hturns : s.turns = []) (hst : s.st = .exDrain)
    (hready : s.repqAns.ready = v :: rest) (hother : classify s.cfg v = .other) :
    step s = .next { s with
      repqAns := { s.repqAns with ready := rest }, trace := s.trace ++ [Event.rd32 (s.latch.iobase + 0x44) v] } := by
  rw [step_exDrain hturns hst (Answers.take_ready .repq s.repqAns v rest hready), hother]
  exact congrArg _ (goto_of_st (s := afterRead .repq v { s.repqAns with ready := rest } s) hst)

/-- Settles O58, by induction on the tokens. -/
theorem otherTokensDiscarded : Obligations.OtherTokensDiscarded := by
  intro vs
  induction vs with
  | nil =>
    intro s rs hturns hst hready hother
    have hready' : s.repqAns.ready = rs := hready
    have hsame : s = { s with repqAns := { s.repqAns with ready := rs }, trace := s.trace ++ [] } := by
      rw [← hready', List.append_nil]
    exact congrArg Host.Outcome.next hsame
  | cons v vs ih =>
    intro s rs hturns hst hready hother
    have hv : classify s.cfg v = .other := (classesAreTheirPatterns s.cfg v).2.2.2.mpr (hother v (by simp))
    let s' : State := { s with
      repqAns := { s.repqAns with ready := vs ++ rs }, trace := s.trace ++ [Event.rd32 (s.latch.iobase + 0x44) v] }
    have hstep : step s = .next s' := step_other hturns hst hready hv
    have hrest := ih s' rs hturns hst rfl fun u hu => hother u (List.mem_cons_of_mem v hu)
    rw [List.length_cons, run_succ vs.length hstep, hrest]
    simp [s']

/-- A controller whose status answers all have bit 3 clear, in the middle of a poll. -/
structure PollsInVain (v : Word) (rest : List Word) (s : State) : Prop where
  noTurns : s.turns = []
  atPoll : s.st = .exStatus ∨ s.st = .exBackoff
  cycles : s.istatusAns.tail = .cycle v rest
  clear : ∀ w ∈ s.istatusAns.ready ++ v :: rest, w.getLsbD 3 = false

/-- Its next answer has bit 3 clear, and so have all that follow. -/
theorem PollsInVain.take {v : Word} {rest : List Word} {s : State} (h : PollsInVain v rest s) :
    ∃ w a, s.istatusAns.take .istatus = some (w, a) ∧ w.getLsbD 3 = false ∧ a.tail = .cycle v rest
      ∧ ∀ w ∈ a.ready ++ v :: rest, w.getLsbD 3 = false := by
  have hclear := h.clear
  cases hready : s.istatusAns.ready with
  | nil =>
    rw [hready] at hclear
    refine ⟨v, { s.istatusAns with ready := rest }, ?_, hclear v (by simp), h.cycles, fun w hw => hclear w ?_⟩
    · simp [Answers.take, hready, h.cycles]
    · exact (List.mem_append.mp hw).elim (List.mem_cons_of_mem v) id
  | cons w ws =>
    rw [hready] at hclear
    exact ⟨w, { s.istatusAns with ready := ws }, Answers.take_ready .istatus s.istatusAns w ws hready,
      hclear w (by simp), h.cycles, fun u hu => hclear u (List.mem_cons_of_mem w hu)⟩

/-- One step polls on and adds one entry to the trace. -/
theorem PollsInVain.polls_on {v : Word} {rest : List Word} {s : State} (h : PollsInVain v rest s) :
    ∃ t, step s = .next t ∧ PollsInVain v rest t ∧ t.trace.length = s.trace.length + 1 ∧ t.hostOut = s.hostOut := by
  rcases h.atPoll with hst | hst
  · obtain ⟨w, a, htake, hw, hcycles, hclear⟩ := h.take
    have hrpl : rpl w = false := hw
    let t := (afterRead .istatus w a s).goto .exBackoff
    have hstep : step s = .next t := by rw [step_exStatus h.noTurns hst htake, hrpl]; rfl
    have hpoll : PollsInVain v rest t := ⟨h.noTurns, .inr rfl, hcycles, hclear⟩
    exact ⟨t, hstep, hpoll, by simp [t, afterRead], rfl⟩
  · exact ⟨_, step_exBackoff h.noTurns hst, ⟨h.noTurns, .inl rfl, h.cycles, h.clear⟩, by simp, rfl⟩

/-- Settles O59, by induction on the number of steps. -/
theorem pollNeverTimesOut : Obligations.PollNeverTimesOut := by
  intro s v rest k hturns hst hcycles hclear
  have hpoll : PollsInVain v rest s := ⟨hturns, .inl hst, hcycles, hclear⟩
  clear hturns hst hcycles hclear
  induction k generalizing s with
  | zero => exact ⟨s, rfl, hpoll.atPoll, rfl, rfl⟩
  | succ k ih =>
    obtain ⟨s', hstep, hpoll', htrace, hout⟩ := hpoll.polls_on
    obtain ⟨t, hrun, hst, htrace', hout'⟩ := ih s' hpoll'
    exact ⟨t, (run_succ k hstep).trans hrun, hst, by omega, hout'.trans hout⟩

end Sys2Proof.Machine

/-! ## A complete BRINGUP (40_doorbell R161)

The run is cut where its loops begin and end: the four writes before the request, the seven request words, the reply halfwords,
and the two writes after the reply. -/

namespace Sys2Proof.Machine

section
variable {s : State} (hturns : s.turns = [])
include hturns

/-! ### The step of each state of a BRINGUP -/

theorem step_bringup {r : HostReq} {rest : List HostReq} (hst : s.st = .idle) (hport : s.port = r :: rest) (hop : r.op = 0)
    (haligned : r.inputs.iobase.toNat % 4 = 0) :
    step s = .next { s with port := rest, latch := { s.latch with iobase := r.inputs.iobase }, st := .buReset } := by
  have hdecode : decodeHostReq r = .bringup r.inputs.iobase := if_pos hop
  rw [step_of_presented hturns hst hport, hdecode]
  exact (bringupAccepted { s with port := rest } r.inputs.iobase hst).1 haligned

theorem step_buReset (hst : s.st = .buReset) :
    step s = .next { s with trace := s.trace ++ [Event.wr32 s.latch.iobase 0x40000000], st := .buImask } := by
  rw [step_of_busy hturns (by simp [hst]) (i := .dbReset) (by rw [nextInstr, hst])]
  exact (resetWordWritten s hst).1

theorem step_buImask (hst : s.st = .buImask) :
    step s = .next { s with trace := s.trace ++ [Event.wr32 (s.latch.iobase + 0x34) 0x00000009], st := .buIclr1 } := by
  rw [step_of_busy hturns (by simp [hst]) (i := .wrImask) (by rw [nextInstr, hst])]
  exact interruptMaskWritten s hst

theorem step_buIclr1 (hst : s.st = .buIclr1) :
    step s = .next { s with trace := s.trace ++ [Event.wr32 (s.latch.iobase + 0x30) 0], st := .buHscmd } := by
  rw [step_of_busy hturns (by simp [hst]) (i := .wrIstatus) (by rw [nextInstr, hst])]
  exact (interruptStatusCleared s).1 hst

theorem step_buHscmd (hst : s.st = .buHscmd) :
    step s = .next { s with trace := s.trace ++ [Event.wr32 s.latch.iobase 0x42070000], idx := 0, st := .buSend } := by
  rw [step_of_busy hturns (by simp [hst]) (i := .dbHandshake) (by rw [nextInstr, hst])]
  exact (handshakeWordWritten s hst).1

theorem step_buSend (hst : s.st = .buSend) : step s = sendRequestWord s := by
  rw [step_of_busy hturns (by simp [hst]) (i := .dbMsgword s.idx) (by rw [nextInstr, hst])]
  exact (inSeq_of_eq _ _ _ hst).trans (if_pos rfl)

theorem step_buRecv {v : Word} {a : Answers} (hst : s.st = .buRecv) (hidx : s.idx < s.cfg.replyHalfwords)
    (htake : s.doorbellAns.take .doorbell = some (v, a)) :
    step s = .next (recvHalfword v
      { s with doorbellAns := a, trace := s.trace ++ [Event.rd32 s.latch.iobase v] }) := by
  rw [step_of_busy hturns (by simp [hst]) (i := .rdDoorbell) (by rw [nextInstr, hst])]
  exact execRdDoorbell_of_answer hst hidx htake

theorem step_buIclr2 (hst : s.st = .buIclr2) :
    step s = .next { s with trace := s.trace ++ [Event.wr32 (s.latch.iobase + 0x30) 0], st := .buPublish } := by
  rw [step_of_busy hturns (by simp [hst]) (i := .wrIstatus) (by rw [nextInstr, hst])]
  exact (interruptStatusCleared s).2 hst

theorem step_buPublish (hst : s.st = .buPublish) :
    step s = .next { s with
      trace := s.trace ++ [Event.wr32 (s.latch.iobase + 0x44) s.cfg.replyBufAddr], st := .idle } := by
  rw [step_of_busy hturns (by simp [hst]) (i := .wrRepq) (by rw [nextInstr, hst])]
  exact replyBufferPublished s hst

/-! ### The four parts of the run -/

/-- The four writes before the request. -/
theorem run_bringupHead (hst : s.st = .buReset) (k : Nat) :
    run (k + 4) s = run k { s with
      trace := s.trace ++ [Event.wr32 s.latch.iobase 0x40000000, Event.wr32 (s.latch.iobase + 0x34) 0x00000009,
        Event.wr32 (s.latch.iobase + 0x30) 0, Event.wr32 s.latch.iobase 0x42070000]
      idx := 0
      st := .buSend } := by
  let s1 : State := { s with trace := s.trace ++ [Event.wr32 s.latch.iobase 0x40000000], st := .buImask }
  let s2 : State := { s1 with trace := s1.trace ++ [Event.wr32 (s.latch.iobase + 0x34) 0x00000009], st := .buIclr1 }
  let s3 : State := { s2 with trace := s2.trace ++ [Event.wr32 (s.latch.iobase + 0x30) 0], st := .buHscmd }
  rw [run_succ (k + 3) (step_buReset hturns hst), run_succ (k + 2) (step_buImask (s := s1) hturns rfl),
    run_succ (k + 1) (step_buIclr1 (s := s2) hturns rfl), run_succ k (step_buHscmd (s := s3) hturns rfl)]
  simp only [s3, s2, s1, List.append_assoc, List.cons_append, List.nil_append]

end

/-- The request words from index `i` on. -/
theorem run_requestWords {n i : Nat} (hn : i + (n + 1) = 7) {s : State} (hturns : s.turns = []) (hst : s.st = .buSend)
    (hidx : s.idx = i) (k : Nat) :
    run (k + (n + 1)) s = run k { s with
      trace := s.trace ++ (List.range' i (n + 1)).map fun j => Event.wr32 s.latch.iobase (iocInitWord s.cfg j)
      idx := 0
      st := .buRecv } := by
  induction n generalizing s i with
  | zero =>
    have hlast : s.idx + 1 = 7 := hidx ▸ hn
    rw [run_succ k ((step_buSend hturns hst).trans (sendRequestWord_of_last hlast)), hidx]
    rfl
  | succ n ih =>
    have hmore : s.idx + 1 < 7 := by omega
    let s' : State := { s with
      trace := s.trace ++ [Event.wr32 s.latch.iobase (iocInitWord s.cfg s.idx)], idx := s.idx + 1 }
    have hstep : step s = .next s' := (step_buSend hturns hst).trans (sendRequestWord_of_more hmore)
    have hrest := ih (i := i + 1) (by omega) (s := s') hturns hst (congrArg (· + 1) hidx)
    rw [← Nat.add_assoc k, run_succ _ hstep, hrest, List.range'_succ (s := i) (n := n + 1)]
    simp [s', hidx]

/-- What a list has up to and including a place that was written. -/
theorem take_succ_set {l : List Half} {i : Nat} (hi : i < l.length) (x : Half) :
    (l.set i x).take (i + 1) = l.take i ++ [x] := by
  rw [← List.take_concat_get' (l.set i x) i (by simpa using hi), List.getElem_set_self, List.take_set_of_le le_rfl]

/-- The reply halfwords from the index on, the last of which fills the store. -/
theorem run_replyHalfwords {vs more : List Word} (hvs : vs ≠ []) {s : State} (hturns : s.turns = []) (hst : s.st = .buRecv)
    (hidx : s.idx + vs.length = s.cfg.replyHalfwords) (hready : s.doorbellAns.ready = vs ++ more)
    (hstore : s.iocReply.length = s.cfg.replyHalfwords) (k : Nat) :
    run (k + vs.length) s = run k { s with
      trace := s.trace ++ vs.map fun v => Event.rd32 s.latch.iobase v
      doorbellAns := { s.doorbellAns with ready := more }
      iocReply := s.iocReply.take s.idx ++ vs.map fun v => v.extractLsb' 0 16
      idx := s.cfg.replyHalfwords - 1
      replyFilled := true
      st := .buIclr2 } := by
  induction vs generalizing s with
  | nil => exact absurd rfl hvs
  | cons v vs ih =>
    rw [List.length_cons] at hidx
    have hbound : s.idx < s.cfg.replyHalfwords := by omega
    have htaken := take_succ_set (hstore ▸ hbound) (v.extractLsb' 0 16)
    let s1 : State := { s with
      doorbellAns := { s.doorbellAns with ready := vs ++ more }, trace := s.trace ++ [Event.rd32 s.latch.iobase v] }
    have hstep : step s = .next (recvHalfword v s1) :=
      step_buRecv hturns hst hbound (Answers.take_ready .doorbell s.doorbellAns v (vs ++ more) hready)
    by_cases hnil : vs = []
    · subst hnil
      have hlast : s.idx + 1 = s.cfg.replyHalfwords := hidx
      have hfull : s.iocReply.set s.idx (v.extractLsb' 0 16) = s.iocReply.take s.idx ++ [v.extractLsb' 0 16] := by
        rw [← htaken, List.take_of_length_le (by simp [hstore, hlast])]
      rw [recvHalfword_of_last (s := s1) hlast.not_lt] at hstep
      rw [List.length_singleton, run_succ k hstep]
      simp [s1, hfull, ← hlast]
    · have hmore : s.idx + 1 < s.cfg.replyHalfwords := by
        have := List.length_pos_iff.mpr hnil
        omega
      rw [recvHalfword_of_more (s := s1) hmore] at hstep
      have hrest := ih hnil (s := { s1 with
        iocReply := s.iocReply.set s.idx (v.extractLsb' 0 16), idx := s.idx + 1 }) hturns hst (by simp [s1]; omega) rfl
        ((List.length_set ..).trans hstore)
      rw [List.length_cons, ← Nat.add_assoc, run_succ _ hstep]
      refine hrest.trans ?_
      simp [s1, htaken]

/-- The two writes after the reply. -/
theorem run_bringupTail {s : State} (hturns : s.turns = []) (hst : s.st = .buIclr2) :
    run 2 s = .next { s with
      trace := s.trace ++ [Event.wr32 (s.latch.iobase + 0x30) 0, Event.wr32 (s.latch.iobase + 0x44) s.cfg.replyBufAddr]
      st := .idle } := by
  let s1 : State := { s with trace := s.trace ++ [Event.wr32 (s.latch.iobase + 0x30) 0], st := .buPublish }
  rw [run_succ 1 (step_buIclr2 hturns hst), run_succ 0 (step_buPublish (s := s1) hturns rfl)]
  simp only [s1, List.append_assoc, List.cons_append, List.nil_append]
  rfl

/-- Settles O54: acceptance, then the four parts of the run. -/
theorem bringupRunsToItsEnd : Obligations.BringupRunsToItsEnd := by
  intro s r rest vs more hturns hst hport hop haligned hready hlen hstore
  have hvs : vs ≠ [] := List.length_pos_iff.mp (hlen ▸ s.cfg.replyHalfwords_pos)
  let s1 : State := { s with port := rest, latch := { s.latch with iobase := r.inputs.iobase }, st := .buReset }
  let s2 : State := { s1 with
    trace := s1.trace ++ [Event.wr32 s1.latch.iobase 0x40000000, Event.wr32 (s1.latch.iobase + 0x34) 0x00000009,
      Event.wr32 (s1.latch.iobase + 0x30) 0, Event.wr32 s1.latch.iobase 0x42070000]
    idx := 0, st := .buSend }
  let s3 : State := { s2 with
    trace := s2.trace ++ (List.range' 0 7).map fun j => Event.wr32 s2.latch.iobase (iocInitWord s2.cfg j)
    idx := 0, st := .buRecv }
  let s4 : State := { s3 with
    trace := s3.trace ++ vs.map fun v => Event.rd32 s3.latch.iobase v
    doorbellAns := { s3.doorbellAns with ready := more }
    iocReply := s3.iocReply.take s3.idx ++ vs.map fun v => v.extractLsb' 0 16
    idx := s3.cfg.replyHalfwords - 1, replyFilled := true, st := .buIclr2 }
  let s5 : State := { s4 with
    trace := s4.trace ++ [Event.wr32 (s4.latch.iobase + 0x30) 0, Event.wr32 (s4.latch.iobase + 0x44) s4.cfg.replyBufAddr]
    st := .idle }
  have hrun : run (14 + s.cfg.replyHalfwords) s = .next s5 := calc
    run (14 + s.cfg.replyHalfwords) s
    _ = run (2 + vs.length + 7 + 4 + 1) s := congrArg (run · s) (by omega)
    _ = run (2 + vs.length + 7 + 4) s1 := run_succ _ (step_bringup hturns hst hport hop haligned)
    _ = run (2 + vs.length + 7) s2 := run_bringupHead (s := s1) hturns rfl _
    _ = run (2 + vs.length) s3 := run_requestWords (s := s2) rfl hturns rfl rfl _
    _ = run 2 s4 := run_replyHalfwords hvs (s := s3) hturns rfl (by simpa [s3, s2, s1] using hlen) hready hstore _
    _ = .next s5 := run_bringupTail (s := s4) hturns rfl
  have htrace : s5.trace = s.trace ++ bringupTrace s.cfg r.inputs.iobase vs := by
    simp only [s5, s4, s3, s2, s1, bringupTrace, List.range_eq_range', List.append_assoc]
  exact ⟨s5, hrun, rfl, rfl, htrace, rfl, rfl, rfl, rfl, rfl, rfl, rfl, rfl⟩

end Sys2Proof.Machine
